-- ==== Sys2Proof/Word.lean ====
section
/-! DEFINITION. The words of the 7316 (00_scope.md, 12_formats.md): bytes, station numbers, station masks, tags,
digests, and the two levels of a share bus line. -/

namespace Sys2Proof

/-- A byte (12_formats.md, "Bytes"): its most significant bit is sent, stored and checked first. -/
abbrev Byte := BitVec 8

/-- A station number, 0 to 15 (00_scope.md, "Station"). -/
abbrev StationNo := BitVec 4

/-- A station mask: bit k stands for station k (12_formats.md, "Station masks"). -/
abbrev StationMask := BitVec 16

/-- A target set: bit t stands for target t (12_formats.md, "Target sets"). -/
abbrev TargetSet := BitVec 4

/-- The datapath's name for a frame (R135). -/
abbrev Tag := BitVec 16

/-- A 32-bit digest (R172). -/
abbrev Digest := BitVec 32

/-- An epoch sequence number, which wraps modulo 256 (R43). -/
abbrev Seq := BitVec 8

/-- The two states of a share bus line: dominant is low and driven, recessive is released and pulled high
(00_scope.md, "Dominant, recessive"). -/
inductive Level where
  | dominant
  | recessive
  deriving DecidableEq, Repr

end Sys2Proof
end

