-- ==== Sys2Proof/Config.lean ====
section
/-! DEFINITION. What the part fixes for every station: the sizes of its tables. The spec leaves no value of an
operation undefined, so there is no free value here (notes/assumptions/1.md). Times, codes and addresses stand
beside the operations that use them, under Machine/. -/

namespace Sys2Proof.Config

/-- Stations of one switch (00_scope.md, "Station"). -/
abbrev stations : Nat := 16

/-- Target numbers, 0 to 3 (00_scope.md, "Target"). -/
abbrev targets : Nat := 4

/-- Queues and credit counters, one per target and class (R135, R148). -/
abbrev queues : Nat := 12

/-- Descriptors the store holds at most (R135). -/
def storeCapacity : Nat := 512

/-- Tags the release history holds at most (R142). -/
def historyLength : Nat := 64

/-- Directives the Directive Queue holds at most (R115). -/
def directiveQueueLength : Nat := 4

end Sys2Proof.Config
end

