-- ==== Sys2Proof/Syntax.lean ====
section
/-! DEFINITION. The commands of the block: one constructor of `Instr` per row of spec/opcode_table.json, with the
operands the row's rules speak of. What reaches the station from outside at an event (the level found on a line,
the samples of a slot, the bytes of a frame or message, the time of an edge, the straps) is the command's operand.
Times are in bit times of 10 ns since the last mark, the reading of the epoch timer (R20, R21).

`ageingFirst` and `lineFirst` are operands too: where the spec says of two pieces of work inside one event that
either may be taken first and gives both outcomes (R106, R146, R168), the command says which came first
(notes/assumptions/4.md). -/

namespace Sys2Proof

/-- A write transaction that names one of the nine commands, less its command byte (R161, R175): the address byte,
the length byte, then the parameter bytes and the check byte, if any, as they came; and whether the frame ended off a
byte boundary. -/
structure Frame where
  address : Byte
  length : Byte
  rest : List Byte
  offByte : Bool
  deriving DecidableEq, Repr

/-- Any write transaction, all its bytes from the address byte on (R161, R162). -/
structure RawFrame where
  bytes : List Byte
  offByte : Bool
  deriving DecidableEq, Repr

/-- The commands of the block. -/
inductive Instr where
  /-- POWER_ON_RESET (R12): the levels of ST0 to ST3. -/
  | powerOnReset (straps : StationNo)
  /-- PIN_RESET (R12): RESET falls. -/
  | pinReset
  /-- PIN_RESET_RELEASE (R12): RESET rises; the levels of ST0 to ST3. -/
  | pinResetRelease (straps : StationNo)
  /-- RESTART (R164): its frame, and the levels of ST0 to ST3. -/
  | restart (straps : StationNo) (frame : Frame)
  /-- GRANULE_READ (R3): the nine bytes taken from CFG_DOUT, the first the most significant. -/
  | granuleRead (granule : BitVec 72)
  /-- EPOCH_TIMER_EXPIRY (R22): the level of SYNC at that moment. -/
  | epochTimerExpiry (sync : Level) (ageingFirst : Bool)
  /-- SYNC_DRIVE_END (R22). -/
  | syncDriveEnd
  /-- SYNC_HIGH_FAULT (R37): SYNC still recessive 0.1 µs after the drive of a mark began. -/
  | syncHighFault (ageingFirst : Bool)
  /-- TRUE_MARK (R23): a falling edge of SYNC, and when. -/
  | trueMark (time : Nat) (ageingFirst : Bool)
  /-- STALL (R36): SYNC dominant for more than 10.0 µs. -/
  | stall
  /-- STALL_END (R38): SYNC sampled recessive, and when. -/
  | stallEnd (time : Nat)
  /-- CENSUS_SLOT_OPEN (R26): the slot that opens. -/
  | censusSlotOpen (slot : StationNo)
  /-- READBACK_MISMATCH (R34): the bit time of the slot or window at which the level sampled differs from the level
  driven. -/
  | readbackMismatch (bitTime : Nat)
  /-- ARBITRATION_WITHDRAW (R30): the bit time at which dominant was sampled on a key bit. -/
  | arbitrationWithdraw (bitTime : Nat)
  /-- CENSUS_SLOT_CLOSE (R25): the slot and its 400 samples of SDAT, bit time 0 the most significant, a 1 for
  recessive. -/
  | censusSlotClose (slot : StationNo) (samples : BitVec 400) (lineFirst : Bool)
  /-- SDAT_LOW_CLEAR (R40): SDAT sampled recessive, and when. -/
  | sdatLowClear (time : Nat)
  /-- DIRECTIVE_WINDOW_OPEN (R29). -/
  | directiveWindowOpen
  /-- DIRECTIVE_WINDOW_CLOSE (R30): the 400 samples of SDAT, as for a slot. -/
  | directiveWindowClose (samples : BitVec 400)
  /-- VETO_WINDOW_OPEN (R32). -/
  | vetoWindowOpen
  /-- VETO_SAMPLE (R33): the level sampled at 70.5 µs. -/
  | vetoSample (level : Level)
  /-- VETO_LOW_FAULT (R39): VETO sampled dominant, and when. -/
  | vetoLowFault (time : Nat)
  /-- VETO_LOW_CLEAR (R39): VETO sampled recessive, and when. -/
  | vetoLowClear (time : Nat)
  /-- SETTLE_START (R62). -/
  | settleStart
  /-- SETTLE_COMPLETE (R63). -/
  | settleComplete
  /-- DEPART (R104). -/
  | depart (frame : Frame)
  /-- REJOIN (R107): its frame, and the level of SYNC, which matters when the epoch timer holds at E_len (R22). -/
  | rejoin (sync : Level) (frame : Frame)
  /-- POST_DIRECTIVE (R114). -/
  | postDirective (frame : Frame)
  /-- READ_VIEW (R165). -/
  | readView (frame : Frame)
  /-- CLEAR_EVENTS (R166). -/
  | clearEvents (frame : Frame)
  /-- SET_EVENT_MASK (R167). -/
  | setEventMask (frame : Frame)
  /-- CLEAR_CAPTURES (R168). -/
  | clearCaptures (frame : Frame)
  /-- CLEAR_COUNTERS (R170). -/
  | clearCounters (frame : Frame)
  /-- UNKNOWN_COMMAND (R162): any frame, and the levels of ST0 to ST3 and of SYNC, which matter only when the frame
  is taken after all and its command is RESTART or REJOIN. -/
  | unknownCommand (straps : StationNo) (sync : Level) (frame : RawFrame)
  /-- OFFER (R137), its fields as they came (R174). -/
  | offer (tag : Tag) (target : Byte) (cls : Byte) (length : BitVec 16)
  /-- RECALL (R143). -/
  | recall (tag : Tag)
  /-- OCCUPANCY (R126). -/
  | occupancy (target : Byte) (cells : BitVec 16)
  /-- LINK_MESSAGE_DISCARD (R174): all the bytes of the message. -/
  | linkMessageDiscard (bytes : List Byte)
  /-- PACER_STEP (R155). -/
  | pacerStep
  deriving DecidableEq, Repr

end Sys2Proof
end

