-- ==== Sys2Proof/Machine/State.lean ====
section
/-! DEFINITION. The state of the station: nine blocks, as 00_scope.md divides the part, each holding what its chapter
names; the messages sent on the descriptor link; the RESET pin; and the queue of commands that wait. Every value that
can be computed from another (the held count, the queued cells, the tag index, the station grants, the pressure view,
ATTN) is computed by an operation of Machine/ and stored nowhere. -/

namespace Sys2Proof.Machine

open Sys2Proof

/-! ### Names -/

/-- The traffic classes (00_scope.md, "Class"; 12.1). -/
inductive TrafficClass where
  | journal | capture | bulk
  deriving DecidableEq, Repr

/-- The ten station states (06_station_life_cycle.md, 6.1). -/
inductive StationState where
  | booting | failsafe | listening | joining | active | resync | leaving | quiet | fenced | excluded
  deriving DecidableEq, Repr

/-- The cause field, shared by the loader and the Station Controller (R18, R108). -/
inductive Cause where
  | none | ecc | digest | range | noLocal | clash | plan
  deriving DecidableEq, Repr

/-- The last reset cause (R94). -/
inductive ResetCause where
  | power | pin | command
  deriving DecidableEq, Repr

/-- The sections of the image (R1). -/
inductive Section where
  | header | plan | localSection
  deriving DecidableEq, Repr

/-- The failure position of the image error state (R15, R17). A digest mismatch names its section at offset 0. -/
inductive FailurePosition where
  | none
  | field (sec : Section) (offset : Nat)
  | granule (index : Nat)
  | station (number : StationNo)
  deriving DecidableEq, Repr

/-- The load phase (1.4); `idle` when no load is in flight. -/
inductive LoadPhase where
  | idle | header | plan | localPhase
  deriving DecidableEq, Repr

/-- The management check modes (R162). -/
inductive CheckMode where
  | off | optional | required
  deriving DecidableEq, Repr

/-- The statuses a notice carries (R46). -/
inductive NoticeStatus where
  | joining | active | resync | leaving | fenced
  deriving DecidableEq, Repr

/-- The directive kinds (R112). -/
inductive DirectiveKind where
  | setPercent | evict | readmit
  deriving DecidableEq, Repr

/-- The phase position (R24). -/
inductive Phase where
  | unaligned | markGuard
  | slot (k : StationNo)
  | directiveWindow | vetoWindow | settle | idle | stalled | suspended
  deriving DecidableEq, Repr

/-- The entry states of the Peer Table (3.1). -/
inductive PeerState where
  | absent | heard | held
  deriving DecidableEq, Repr

/-- The origins of an allocation record (R60). -/
inductive Origin where
  | computed | carried | fallback
  deriving DecidableEq, Repr

/-- The settle state (R61). -/
inductive SettleState where
  | idle | inFlight | complete
  deriving DecidableEq, Repr

/-- The monitor states (R125). -/
inductive MonitorState where
  | masked | clear | pressed | stale
  deriving DecidableEq, Repr

/-- The reasons of REFUSED, in the order of the checks (R137). -/
inductive RefusalReason where
  | notServing | leaving | badField | targetHeld | tagBusy | storeFull | queueFull
  deriving DecidableEq, Repr

/-- The reasons of EXPIRED (R133). -/
inductive ExpiryReason where
  | age | depart | fence | exclude
  deriving DecidableEq, Repr

/-- The statuses of a response (R162, R164). NONE is what an empty buffer reads as, no response. -/
inductive Status where
  | ok | badLength | badCheck | missingCheck | unknownCommand | notReady | badOperand | notActive | queueFull | badState
  deriving DecidableEq, Repr

/-- The fourteen event flags (11.4), in the order of the event bits (12.1). -/
inductive Event where
  | line | readback | vetoed | fallback | minority | excluded | fenced | cfgFix | storeFull | expired | stale
  | dirDone | dirDrop | failsafe
  deriving DecidableEq, Repr

/-! ### The plan and the local settings -/

/-- A plan entry (R5); `station` is `none` for ALL. -/
structure PlanEntry where
  station : Option StationNo
  target : Fin 4
  cls : TrafficClass
  weight : Nat
  floor : Nat
  ceiling : Nat
  reserve : Bool
  tierEnd : Bool
  deriving DecidableEq, Repr

/-- The Plan Table: the plan header (R4) and the plan entries in plan position order (R5). -/
structure Plan where
  epochLength : Nat
  targets : Nat
  capacity : Vector Nat 4
  pressedPercent : Vector Nat 4
  listenEpochs : Nat
  missLimit : Nat
  voidLimit : Nat
  entries : List PlanEntry
  deriving DecidableEq, Repr

/-- The empty Plan Table (R12). -/
def Plan.empty : Plan :=
  { epochLength := 0, targets := 0, capacity := Vector.replicate 4 0, pressedPercent := Vector.replicate 4 0,
    listenEpochs := 0, missLimit := 0, voidLimit := 0, entries := [] }

/-- A slot of the Release Ring (R153). -/
structure RingSlot where
  target : Fin 4
  cls : TrafficClass
  skip : Bool
  stop : Bool
  deriving DecidableEq, Repr

/-- The thresholds of one monitor (R8). -/
structure Thresholds where
  high : Nat
  low : Nat
  debounce : Nat
  deriving DecidableEq, Repr

/-- The Local Settings (R8). The ring holds the slots in use alone: its length is the ring length (R9). -/
structure Settings where
  eventMask : BitVec 14
  checkMode : CheckMode
  ageLimit : Nat
  queueLimits : Vector Nat 12
  banks : Vector Nat 3
  ring : List RingSlot
  stepInterval : Nat
  monitors : Vector Thresholds 4
  drainLimit : Nat
  deriving DecidableEq, Repr

/-- The empty Local Settings, with the start values of R11. -/
def Settings.empty : Settings :=
  { eventMask := BitVec.allOnes 14, checkMode := .optional, ageLimit := 0, queueLimits := Vector.replicate 12 0,
    banks := Vector.replicate 3 0, ring := [], stepInterval := 0,
    monitors := Vector.replicate 4 { high := 0, low := 0, debounce := 0 }, drainLimit := 0 }

/-- A directory entry (R1): the granules of a section. -/
structure Granules where
  start : Nat
  length : Nat
  deriving DecidableEq, Repr

/-- What the loader does on the configuration memory port: CFG_SEL driven high or low, bytes sent on CFG_DIN (R2). -/
inductive PortAct where
  | selectHigh | selectLow
  | send (bytes : List Byte)
  deriving DecidableEq, Repr

/-- The Configuration Loader (chapter 1): the load phase; the granules of the read in progress and the corrected data
taken from them so far; the directory entry of the own local section; the plan validated and not yet published; what
is published; and the configuration memory port (R2): whether CFG_SEL is low, the command of the read in progress, and
what was driven since the last reset was taken, oldest first. -/
structure Loader where
  phase : LoadPhase
  reading : Granules
  data : List Byte
  localEntry : Granules
  stagedPlan : Plan
  plan : Plan
  settings : Settings
  planDigest : Digest
  strapped : StationNo
  corrections : Nat
  failurePosition : FailurePosition
  cfgSelected : Bool
  cfgCommand : List Byte
  port : List PortAct
  deriving DecidableEq, Repr

/-! ### Frames of the share bus -/

/-- The Admin Record: four target percents and the evicted mask (R60). -/
structure Admin where
  percents : Vector Nat 4
  evicted : StationMask
  deriving DecidableEq, Repr

/-- The contents of a Demand Notice, less its check (R57, R173). -/
structure Notice where
  sender : StationNo
  status : NoticeStatus
  seq : Seq
  voidCount : BitVec 4
  pressure : TargetSet
  planDigest : Digest
  standingDigest : Digest
  percents : Vector Byte 4
  evicted : StationMask
  demands : Vector (BitVec 16) 12
  deriving DecidableEq, Repr

/-- The contents of a Directive Frame, less its check (R173). -/
structure DirectiveFrame where
  priority : BitVec 2
  sender : StationNo
  seq : BitVec 8
  kind : DirectiveKind
  operand : BitVec 16
  deriving DecidableEq, Repr

/-- A directive record of the Directive Queue (R112). -/
structure Directive where
  frame : DirectiveFrame
  sendCount : Nat
  deriving DecidableEq, Repr

/-! ### Share Bus Interface -/

/-- What the transmit buffer holds (R26, R29). -/
inductive TxFrame where
  | notice (n : Notice)
  | directive (d : DirectiveFrame)
  deriving DecidableEq, Repr

/-- The readback state of the frame on the line: driven so far as read back, withdrawn at a key bit (R30), abandoned
at a mismatch (R34), released for a state change (R19), or complete: every bit driven before a state change, which
releases nothing then. -/
inductive Readback where
  | idle | driving | withdrawn | mismatched | released | complete
  deriving DecidableEq, Repr

/-- The drive of SYNC for a mark: begun and not yet seen to fall, or taken as a true mark (R22, R37). -/
inductive SyncDrive where
  | released | attempting | marking
  deriving DecidableEq, Repr

/-- The line-fault state (R41). -/
structure LineFaults where
  syncLow : Bool
  syncHigh : Bool
  vetoLow : Bool
  sdatLow : Bool
  deriving DecidableEq, Repr

/-- The Share Bus Interface (chapter 2). The timer counts bit times (R21). `vetoed` is the veto sample of the epoch
(R33), `vetoAsked` says that the veto window has opened (R32), `windowClosed` that the directive window has closed. -/
structure Sbi where
  running : Bool
  timer : Nat
  phase : Phase
  seq : Seq
  txBuffer : Option TxFrame
  readback : Readback
  clashStreak : Nat
  faults : LineFaults
  syncDrive : SyncDrive
  vetoDrive : Bool
  vetoAsked : Bool
  vetoed : Bool
  windowClosed : Bool
  deriving DecidableEq, Repr

/-! ### Census Unit -/

/-- A Peer Table entry (3.1). The last heard status is the status in the contents. -/
structure PeerEntry where
  state : PeerState
  contents : Option Notice
  missCount : Nat
  lastHeard : Seq
  deriving DecidableEq, Repr

/-- The veto reasons of the epoch (R53). -/
structure VetoReasons where
  badSlot : Bool
  badDirective : Bool
  ownAbandoned : Bool
  deriving DecidableEq, Repr

/-- A pending result of the tally: a verdict (R85) or an outcome (R86). -/
inductive TallyResult where
  | agree | minority | lone | match | mismatch
  deriving DecidableEq, Repr

/-- The Census Unit (chapters 3 and 5). `ownSent` says that the own notice of this epoch was sent (R48),
`activeHeard` that a valid Active notice has been heard since entry to Listening (R47), `adopted` is the Admin Record
of this epoch's adoption (R87), `result` the tally result that waits for the mark (R89). -/
structure Census where
  peers : Vector PeerEntry 16
  heard : StationMask
  reasons : VetoReasons
  received : Option DirectiveFrame
  ownSent : Bool
  activeHeard : Bool
  adopted : Option Admin
  result : Option TallyResult
  deriving DecidableEq, Repr

/-! ### Allocation Engine -/

/-- An allocation record (R60). The grants stand in plan position order, sixteen for an ALL position. -/
structure Record where
  grants : List Nat
  capacities : Vector Nat 4
  members : StationMask
  guests : StationMask
  pressure : TargetSet
  admin : Admin
  origin : Origin
  digest : Digest
  deriving DecidableEq, Repr

/-- The Allocation Engine (chapter 4). `handOver` is the Census Unit as its data is handed to a settle in flight (R56,
R62); nothing taken since changes it. -/
structure Alloc where
  standing : Record
  pending : Option Record
  voidCount : Nat
  pendingVoid : Nat
  settle : SettleState
  handOver : Option Census
  deriving DecidableEq, Repr

/-! ### Station Controller -/

/-- The Station Controller (chapters 6 and 7). -/
structure Control where
  station : StationState
  cause : Cause
  lastReset : ResetCause
  streak : Nat
  listenCount : Nat
  drainCount : Nat
  drainProgress : Nat
  drainEpochs : Nat
  queue : List Directive
  nextSeq : BitVec 8
  awaiting : Bool
  deriving DecidableEq, Repr

/-! ### Pressure Monitors, Descriptor Store, Release Meter -/

/-- A Pressure Monitor (chapter 8). -/
structure Monitor where
  state : MonitorState
  highCount : Nat
  lowCount : Nat
  marks : Nat
  lastReading : Nat
  deriving DecidableEq, Repr

/-- A descriptor record (R135). -/
structure Descriptor where
  tag : Tag
  target : Fin 4
  cls : TrafficClass
  length : Nat
  cells : Nat
  age : Nat
  deriving DecidableEq, Repr

/-- The Descriptor Store (chapter 9): twelve queues, head first; the arrival counts; the release history, oldest
first. -/
structure Store where
  queues : Vector (List Descriptor) 12
  arrivals : Vector Nat 12
  previous : Vector Nat 12
  history : List Tag
  deriving DecidableEq, Repr

/-- The Release Meter (chapter 10). `sinceStep` is the time since the pacer's last step, or since its start, in units of
10 ns. -/
structure Meter where
  credits : Vector Int 12
  position : Nat
  halt : Bool
  running : Bool
  sinceStep : Nat
  deriving DecidableEq, Repr

/-! ### Management Port -/

/-- Where a frame stood on the share bus (R169). -/
inductive Place where
  | slot (k : StationNo)
  | directiveWindow
  deriving DecidableEq, Repr

/-- The events of the Bus capture (R169). -/
inductive BusEvent where
  | readback (place : Place) (bitTime : Nat) (seq : Seq)
  | check (place : Place) (seq : Seq)
  | length (place : Place) (seq : Seq)
  | syncLow (seq : Seq)
  | syncHigh (seq : Seq)
  | vetoLow (seq : Seq)
  | sdatLow (slot : StationNo) (seq : Seq)
  deriving DecidableEq, Repr

/-- The event of the Agreement capture (R90). -/
structure MinorityEvent where
  seq : Seq
  own : Digest
  majority : Digest
  groupSize : Nat
  participants : Nat
  deriving DecidableEq, Repr

/-- The event of the Directive capture (R120). -/
structure IgnoredEvent where
  frame : DirectiveFrame
  seq : Seq
  deriving DecidableEq, Repr

/-- The events of the Config capture (R169). -/
inductive ConfigEvent where
  | corrected (granule : Nat)
  | ecc (granule : Nat)
  | digest (sec : Section)
  | range (sec : Section) (offset : Nat)
  | noLocal (number : StationNo)
  deriving DecidableEq, Repr

/-- A capture record (R168): the first event since it was last cleared (none: not valid), and the event count. -/
structure Capture (α : Type) where
  first : Option α
  count : Nat
  deriving DecidableEq, Repr

/-- The eleven counters (R170). -/
structure Counters where
  offersTaken : Nat
  offersRefused : Nat
  releases : Nat
  recalls : Nat
  expiries : Nat
  trueMarks : Nat
  voidEpochs : Nat
  cutEpochs : Nat
  badFrames : Nat
  ignoredDirectives : Nat
  ignoredReports : Nat
  deriving DecidableEq, Repr

/-- A response (R164). -/
structure Response where
  status : Status
  data : List Byte
  deriving DecidableEq, Repr

/-- The transaction in progress at the management port (R161): none that is addressed to it; a write, with its bytes so far,
the address byte first; a read, with the bytes of the response that are to come. -/
inductive Transaction where
  | idle
  | receiving (bytes : List Byte)
  | sending (rest : List Byte)
  deriving DecidableEq, Repr

/-- The Management Port (chapter 11). In `flags` and `mask` bit n stands for event bit n (12.1). -/
structure Mgmt where
  response : Option Response
  flags : BitVec 14
  mask : BitVec 14
  checkMode : CheckMode
  bus : Capture BusEvent
  agreement : Capture MinorityEvent
  directive : Capture IgnoredEvent
  config : Capture ConfigEvent
  counters : Counters
  transaction : Transaction
  deriving DecidableEq, Repr

/-- The messages to the datapath (R133). -/
inductive LinkMessage where
  | taken (tag : Tag)
  | refused (tag : Tag) (reason : RefusalReason)
  | release (tag : Tag)
  | expired (tag : Tag) (reason : ExpiryReason)
  | recalled (tag : Tag)
  | recallLate (tag : Tag)
  | recallUnknown (tag : Tag)
  | flushed
  deriving DecidableEq, Repr

/-! ### The machine -/

/-- The state of the station. `pending` is the queue of commands that wait, first in, first out; `sent` the messages
sent to the datapath since the last reset, oldest first (R133, R134); `resetLow` the RESET pin held low (R12). -/
structure State where
  pending : List Instr
  loader : Loader
  sbi : Sbi
  census : Census
  alloc : Alloc
  ctl : Control
  monitors : Vector Monitor 4
  store : Store
  meter : Meter
  mgmt : Mgmt
  sent : List LinkMessage
  resetLow : Bool
  deriving DecidableEq, Repr

/-- No step of this machine stops with a fault: the spec names an effect, or none at all, for every command in every
state, so this type has no constructor (notes/assumptions/2.md). Safe. -/
inductive Fault where
  deriving DecidableEq, Repr

/-- Why a command has no meaning. -/
inductive Refusal where
  /-- Raised by exec alone, for a command of the table that has no meaning yet. No command is left so. Safe. -/
  | notModelled (mnemonic : String)
  deriving DecidableEq, Repr

/-! ### Reset -/

/-- The Peer Table entry after a reset and at entry to Listening (R44). -/
def PeerEntry.reset : PeerEntry := { state := .absent, contents := none, missCount := 0, lastHeard := 0 }

/-- A monitor after a reset (R125). -/
def Monitor.reset : Monitor := { state := .masked, highCount := 0, lowCount := 0, marks := 0, lastReading := 0 }

/-- The Admin Record after a reset (R61). -/
def Admin.reset : Admin := { percents := Vector.replicate 4 100, evicted := 0 }

/-- The standing record after a reset (R61). -/
def Record.reset : Record :=
  { grants := [], capacities := Vector.replicate 4 0, members := 0, guests := 0, pressure := 0,
    admin := Admin.reset, origin := .fallback, digest := 0 }

/-- No line fault. -/
def LineFaults.none : LineFaults := { syncLow := false, syncHigh := false, vetoLow := false, sdatLow := false }

/-- No veto reason. -/
def VetoReasons.none : VetoReasons := { badSlot := false, badDirective := false, ownAbandoned := false }

/-- A cleared capture (R168). -/
def Capture.cleared {α : Type} : Capture α := { first := .none, count := 0 }

/-- All counters at 0 (R170). -/
def Counters.zero : Counters :=
  { offersTaken := 0, offersRefused := 0, releases := 0, recalls := 0, expiries := 0, trueMarks := 0,
    voidEpochs := 0, cutEpochs := 0, badFrames := 0, ignoredDirectives := 0, ignoredReports := 0 }

/-- The loader at the start of a load: CFG_SEL driven high as the reset is taken, then the read of the image header
begun (R2, R12). The strapped number is 0 here because the
spec gives the straps no level (notes/assumptions/3.md). -/
def Loader.reset : Loader :=
  { phase := .header, reading := { start := 0, length := 9 }, data := [], localEntry := { start := 0, length := 0 },
    stagedPlan := Plan.empty, plan := Plan.empty, settings := Settings.empty, planDigest := 0, strapped := 0,
    corrections := 0, failurePosition := .none, cfgSelected := true, cfgCommand := [0x03, 0x00, 0x00, 0x00],
    port := [.selectHigh, .selectLow, .send [0x03, 0x00, 0x00, 0x00]] }

/-- The SBI after a reset (R21). -/
def Sbi.reset : Sbi :=
  { running := false, timer := 0, phase := .unaligned, seq := 0, txBuffer := none, readback := .idle,
    clashStreak := 0, faults := LineFaults.none, syncDrive := .released, vetoDrive := false, vetoAsked := false,
    vetoed := false, windowClosed := false }

/-- The Census Unit after a reset (R44, R89). -/
def Census.reset : Census :=
  { peers := Vector.replicate 16 PeerEntry.reset, heard := 0, reasons := VetoReasons.none, received := none,
    ownSent := false, activeHeard := false, adopted := none, result := none }

/-- The Allocation Engine after a reset (R61). -/
def Alloc.reset : Alloc :=
  { standing := Record.reset, pending := none, voidCount := 0, pendingVoid := 0, settle := .idle, handOver := none }

/-- The Station Controller after a power-on reset (R94, R113). -/
def Control.reset : Control :=
  { station := .booting, cause := .none, lastReset := .power, streak := 0, listenCount := 0, drainCount := 0,
    drainProgress := 0, drainEpochs := 0, queue := [], nextSeq := 0, awaiting := false }

/-- The Descriptor Store after a reset (R136). -/
def Store.reset : Store :=
  { queues := Vector.replicate 12 [], arrivals := Vector.replicate 12 0, previous := Vector.replicate 12 0,
    history := [] }

/-- The Release Meter after a reset (R148, R153, R154). -/
def Meter.reset : Meter :=
  { credits := Vector.replicate 12 0, position := 0, halt := false, running := false, sinceStep := 0 }

/-- The Management Port after a power-on reset (R11, R161, R164, R166, R167, R168, R170). -/
def Mgmt.reset : Mgmt :=
  { response := none, flags := 0, mask := BitVec.allOnes 14, checkMode := .optional, bus := Capture.cleared,
    agreement := Capture.cleared, directive := Capture.cleared, config := Capture.cleared,
    counters := Counters.zero, transaction := .idle }

/-- The station right after a power-on reset, nothing waiting (R12). -/
def State.reset : State :=
  { pending := [], loader := Loader.reset, sbi := Sbi.reset, census := Census.reset, alloc := Alloc.reset,
    ctl := Control.reset, monitors := Vector.replicate 4 Monitor.reset, store := Store.reset, meter := Meter.reset,
    mgmt := Mgmt.reset, sent := [], resetLow := false }

end Sys2Proof.Machine
end

