-- ==== Sys2Proof/Machine/Codes.lean ====
section
/-! DEFINITION. Bytes, bits and check codes (R172), and the numbered values that fields carry (12.1). -/

namespace Sys2Proof.Machine

open Sys2Proof

/-! ### Bits and bytes -/

/-- The bits of a value, most significant first (12_formats.md, "Bytes"). -/
def bitsOf {w : Nat} (x : BitVec w) : List Bool := (List.range w).map x.getMsbD

/-- The bits of a run of bytes, in the order they are sent (12_formats.md, "Bytes"). -/
def bitsOfBytes (bytes : List Byte) : List Bool := bytes.flatMap bitsOf

/-- Two bytes, the most significant first (12_formats.md, "Multi-byte values"). -/
def bytes16 (x : BitVec 16) : List Byte := [x.extractLsb' 8 8, x.extractLsb' 0 8]

/-- Four bytes, the most significant first. -/
def bytes32 (x : BitVec 32) : List Byte :=
  [x.extractLsb' 24 8, x.extractLsb' 16 8, x.extractLsb' 8 8, x.extractLsb' 0 8]

/-- A number as one byte. -/
def byte (n : Nat) : Byte := BitVec.ofNat 8 n

/-- A number as two bytes. -/
def nat16 (n : Nat) : List Byte := bytes16 (BitVec.ofNat 16 n)

/-- A number as four bytes. -/
def nat32 (n : Nat) : List Byte := bytes32 (BitVec.ofNat 32 n)

/-- A flag as one byte of a view page, 1 for set and 0 for clear (notes/assumptions/27.md). -/
def boolByte (b : Bool) : Byte := if b then 1 else 0

/-- The byte at an offset of a record. -/
def byteAt (d : List Byte) (o : Nat) : Byte := d.getD o 0

/-- The two-byte field at an offset of a record. -/
def word16At (d : List Byte) (o : Nat) : BitVec 16 := byteAt d o ++ byteAt d (o + 1)

/-- The four-byte field at an offset of a record. -/
def word32At (d : List Byte) (o : Nat) : BitVec 32 := word16At d o ++ word16At d (o + 2)

/-- The one-byte number at an offset of a record. -/
def nat8At (d : List Byte) (o : Nat) : Nat := (byteAt d o).toNat

/-- The two-byte number at an offset of a record. -/
def nat16At (d : List Byte) (o : Nat) : Nat := (word16At d o).toNat

/-! ### Check codes -/

/-- One bit into a cyclic check (R172): the feedback is the bit exclusive-or the register's most significant bit. -/
def crcStep {w : Nat} (low : BitVec w) (reg : BitVec w) (bit : Bool) : BitVec w :=
  (reg <<< 1) ^^^ (if bit ^^ reg.msb then low else 0)

/-- A cyclic check over a sequence of bits (R172). -/
def crc {w : Nat} (low initial : BitVec w) (bits : List Bool) : BitVec w := bits.foldl (crcStep low) initial

/-- The management check (R162, R172). -/
def managementCheck (bytes : List Byte) : BitVec 8 := crc 0xD5 0x00 (bitsOfBytes bytes)

/-- The frame check of notices and Directive Frames (R172). -/
def frameCheck (bits : List Bool) : BitVec 16 := crc 0x8005 0xFFFF bits

/-- The 32-bit digest, all bits inverted at the end (R172). -/
def digestOf (bytes : List Byte) : Digest := ~~~(crc (0x04C11DB7 : BitVec 32) 0xFFFFFFFF (bitsOfBytes bytes))

/-! ### Code tables of 12.1 -/

/-- The number of a class. -/
def TrafficClass.index : TrafficClass → Fin 3
  | .journal => 0 | .capture => 1 | .bulk => 2

/-- The class a byte encodes, if any. -/
def TrafficClass.ofByte (b : Byte) : Option TrafficClass :=
  if b = 0 then some .journal else if b = 1 then some .capture else if b = 2 then some .bulk else none

/-- The code of a notice status. -/
def NoticeStatus.code : NoticeStatus → BitVec 4
  | .joining => 1 | .active => 2 | .resync => 3 | .leaving => 4 | .fenced => 5

/-- The status a field encodes, if any. -/
def NoticeStatus.ofCode (b : BitVec 4) : Option NoticeStatus :=
  if b = 1 then some .joining else if b = 2 then some .active else if b = 3 then some .resync
  else if b = 4 then some .leaving else if b = 5 then some .fenced else none

/-- The code of a directive kind. -/
def DirectiveKind.code : DirectiveKind → Byte
  | .setPercent => 1 | .evict => 2 | .readmit => 3

/-- The directive kind a byte encodes, if any. -/
def DirectiveKind.ofByte (b : Byte) : Option DirectiveKind :=
  if b = 1 then some .setPercent else if b = 2 then some .evict else if b = 3 then some .readmit else none

/-- The check mode a byte encodes, if any. -/
def CheckMode.ofByte (b : Byte) : Option CheckMode :=
  if b = 0 then some .off else if b = 1 then some .optional else if b = 2 then some .required else none

/-- The code of a check mode. -/
def CheckMode.code : CheckMode → Byte
  | .off => 0 | .optional => 1 | .required => 2

/-- The code of a station state on page 0. -/
def StationState.code : StationState → Byte
  | .booting => 0 | .failsafe => 1 | .listening => 2 | .joining => 3 | .active => 4 | .resync => 5 | .leaving => 6
  | .quiet => 7 | .fenced => 8 | .excluded => 9

/-- The code of a cause on page 0. -/
def Cause.code : Cause → Byte
  | .none => 0 | .ecc => 1 | .digest => 2 | .range => 3 | .noLocal => 4 | .clash => 5 | .plan => 6

/-- The code of a last reset cause. -/
def ResetCause.code : ResetCause → Byte
  | .power => 0 | .pin => 1 | .command => 2

/-- The code of a refusal reason. -/
def RefusalReason.code : RefusalReason → Byte
  | .notServing => 1 | .leaving => 2 | .badField => 3 | .targetHeld => 4 | .tagBusy => 5 | .storeFull => 6
  | .queueFull => 7

/-- The code of an expiry reason. -/
def ExpiryReason.code : ExpiryReason → Byte
  | .age => 1 | .depart => 2 | .fence => 3 | .exclude => 4

/-- The code of a management status. -/
def Status.code : Status → Byte
  | .ok => 0 | .badLength => 1 | .badCheck => 2 | .missingCheck => 3 | .unknownCommand => 4 | .notReady => 5
  | .badOperand => 6 | .notActive => 7 | .queueFull => 8 | .badState => 9

/-- The code of an allocation origin. -/
def Origin.code : Origin → Byte
  | .computed => 0 | .carried => 1 | .fallback => 2

/-- The code of a settle state. -/
def SettleState.code : SettleState → Byte
  | .idle => 0 | .inFlight => 1 | .complete => 2

/-- The code of a peer entry state. -/
def PeerState.code : PeerState → Byte
  | .absent => 0 | .heard => 1 | .held => 2

/-- The code of a monitor state. -/
def MonitorState.code : MonitorState → Byte
  | .masked => 0 | .clear => 1 | .pressed => 2 | .stale => 3

/-- The event bit of a flag. -/
def Event.bit : Event → Nat
  | .line => 0 | .readback => 1 | .vetoed => 2 | .fallback => 3 | .minority => 4 | .excluded => 5 | .fenced => 6
  | .cfgFix => 7 | .storeFull => 8 | .expired => 9 | .stale => 10 | .dirDone => 11 | .dirDrop => 12 | .failsafe => 13

/-- The fourteen flags. -/
def Event.all : List Event :=
  [.line, .readback, .vetoed, .fallback, .minority, .excluded, .fenced, .cfgFix, .storeFull, .expired, .stale,
   .dirDone, .dirDrop, .failsafe]

/-- The code of a section in a capture field and in a failure position (R175). -/
def Section.code : Section → Byte
  | .header => 1 | .plan => 2 | .localSection => 3

/-! ### Queue numbers and station masks -/

/-- The queue of a target and class: queue 3t + c (R135). -/
def queueIndex (t : Fin 4) (c : TrafficClass) : Fin 12 :=
  ⟨3 * t.val + c.index.val, by have := t.isLt; have := c.index.isLt; omega⟩

/-- The target of a queue (R135). -/
def queueTarget (q : Fin 12) : Fin 4 := ⟨q.val / 3, by have := q.isLt; omega⟩

/-- The class of a queue, as a number (R135). -/
def queueClass (q : Fin 12) : Fin 3 := ⟨q.val % 3, by omega⟩

/-- The station numbers 0 to 15, in order. -/
def allStations : List StationNo := (List.range 16).map (BitVec.ofNat 4)

/-- The target numbers 0 to 3, in order. -/
def allTargets : List (Fin 4) := [0, 1, 2, 3]

/-- Whether a mask holds a station. -/
def holds (m : StationMask) (k : StationNo) : Bool := m.getLsbD k.toNat

/-- The mask of one station. -/
def stationBit (k : StationNo) : StationMask := (1 : BitVec 16) <<< k.toNat

/-- The mask of the stations that satisfy a predicate. -/
def maskOf (p : StationNo → Bool) : StationMask :=
  BitVec.ofBoolListLE (allStations.map p)

/-- The set of the targets that satisfy a predicate. -/
def targetSetOf (p : Fin 4 → Bool) : TargetSet :=
  BitVec.ofBoolListLE (allTargets.map p)

end Sys2Proof.Machine
end

