-- ==== Sys2Proof/Machine/Operands.lean ====
section
/-! DEFINITION. What the bits of each operand mean: granules (R3, R176), the samples of slots and windows (R27, R31),
notices and Directive Frames (R46, R52, R173), link messages (R174), management frames (R162, R175). -/

namespace Sys2Proof.Machine

open Sys2Proof

/-! ### Granules -/

/-- Whether a code position is a power of two, the place of a check bit (R176). -/
def isCheckPosition (p : Nat) : Bool := p == 1 || p == 2 || p == 4 || p == 8 || p == 16 || p == 32 || p == 64

/-- The code positions of data bits d0 to d63, in order (R176). -/
def dataPositions : List Nat := (List.range 72).filter fun p => p != 0 && !isCheckPosition p

/-- The parity of a sequence of bits. -/
def parity (bits : List Bool) : Bool := bits.foldl (· ^^ ·) false

/-- The eight data bytes of a granule as one number; d0 is its most significant bit (R176). -/
def granuleData (g : BitVec 72) : BitVec 64 := g.extractLsb' 8 64

/-- Check bit ci computed from the data: the parity of the data bits whose position has bit i set (R176). -/
def dataParity (d : BitVec 64) (i : Nat) : Bool :=
  parity (((bitsOf d).zip dataPositions).map fun (b, p) => b && p.testBit i)

/-- The syndrome: bit i is the recomputed ci exclusive-or the stored ci, which stands in bit i of the check byte
(R176). -/
def syndrome (g : BitVec 72) : Nat :=
  ((List.range 7).map fun i => if dataParity (granuleData g) i ^^ g.getLsbD i then 2 ^ i else 0).sum

/-- The outcomes of a granule check (R3). -/
inductive GranuleOutcome where
  | clean (data : BitVec 64)
  | corrected (data : BitVec 64)
  | double
  deriving DecidableEq, Repr

/-- The check of a granule, by syndrome and overall parity (R176). -/
def checkGranule (g : BitVec 72) : GranuleOutcome :=
  let d := granuleData g
  let s := syndrome g
  let odd := parity (bitsOf g)
  if s = 0 then (if odd then .corrected d else .clean d)
  else if !odd then .double
  else if isCheckPosition s then .corrected d
  else if 72 ≤ s then .double
  else .corrected (d ^^^ ((1 : BitVec 64) <<< (63 - dataPositions.idxOf s)))

/-- The eight data bytes of a granule, byte 0 first (R176). -/
def granuleBytes (d : BitVec 64) : List Byte := (List.range 8).map fun i => d.extractLsb' (56 - 8 * i) 8

/-! ### Samples of SDAT -/

/-- What the samples of a slot or window carry (R27, R31). -/
inductive Reception (w : Nat) where
  | silent
  | framed (bits : BitVec w)
  | malformed
  deriving DecidableEq, Repr

/-- The lead, bit times 0 to 19, sampled recessive throughout (R27, R31, R35). -/
def leadRecessive (samples : BitVec 400) : Bool := samples.extractLsb' 380 20 == BitVec.allOnes 20

/-- Every sample dominant (R40). -/
def allDominant (samples : BitVec 400) : Bool := samples == 0

/-- Every sample recessive (R27, R31). -/
def allRecessive (samples : BitVec 400) : Bool := samples == BitVec.allOnes 400

/-- A census slot classified: bit times 365 to 399 are the tail, 21 to 364 the notice (R27). -/
def classifySlot (samples : BitVec 400) : Reception 344 :=
  if allRecessive samples then .silent
  else if leadRecessive samples && samples.extractLsb' 0 35 == BitVec.allOnes 35 && !samples.getMsbD 20 then
    .framed (samples.extractLsb' 35 344)
  else .malformed

/-- A directive window classified: bit times 75 to 399 are the tail, 21 to 74 the frame (R31). -/
def classifyWindow (samples : BitVec 400) : Reception 54 :=
  if allRecessive samples then .silent
  else if leadRecessive samples && samples.extractLsb' 0 325 == BitVec.allOnes 325 && !samples.getMsbD 20 then
    .framed (samples.extractLsb' 325 54)
  else .malformed

/-! ### Notices -/

/-- Bytes 0 to 40 of a notice (R173). -/
def Notice.bytes (n : Notice) : List Byte :=
  [n.sender ++ n.status.code, n.seq, n.voidCount ++ n.pressure] ++ bytes32 n.planDigest ++ bytes32 n.standingDigest
    ++ n.percents.toList ++ bytes16 n.evicted ++ n.demands.toList.flatMap bytes16

/-- The check of a notice, over bytes 0 to 40 (R173). -/
def Notice.check (n : Notice) : BitVec 16 := frameCheck (bitsOfBytes n.bytes)

/-- The 344 bits of a notice, in the order they are sent (R173). -/
def Notice.bits (n : Notice) : List Bool := bitsOfBytes (n.bytes ++ bytes16 n.check)

/-- The fields of a notice read from its bytes (R173); none when the status field encodes no status. -/
def Notice.ofBytes (b : List Byte) : Option Notice :=
  match NoticeStatus.ofCode ((byteAt b 0).extractLsb' 0 4) with
  | none => none
  | some status =>
    some { sender := (byteAt b 0).extractLsb' 4 4, status := status, seq := byteAt b 1,
           voidCount := (byteAt b 2).extractLsb' 4 4, pressure := (byteAt b 2).extractLsb' 0 4,
           planDigest := word32At b 3, standingDigest := word32At b 7,
           percents := Vector.ofFn fun t : Fin 4 => byteAt b (11 + t.val), evicted := word16At b 15,
           demands := Vector.ofFn fun q : Fin 12 => word16At b (17 + 2 * q.val) }

/-- The 43 bytes of a received notice. -/
def noticeBytes (x : BitVec 344) : List Byte := (List.range 43).map fun o => x.extractLsb' (336 - 8 * o) 8

/-- The valid notice that bytes received in a slot carry, if any (R46): the check passes, the sender is the slot's
number, the status is one of the five, and every percent is 100 or less. -/
def validNotice (slot : StationNo) (b : List Byte) : Option Notice :=
  if frameCheck (bitsOfBytes (b.take 41)) = word16At b 41 then
    match Notice.ofBytes b with
    | none => none
    | some n => if n.sender = slot ∧ n.percents.all (fun a => decide (a.toNat ≤ 100)) then some n else none
  else none

/-! ### Directive Frames -/

/-- Frame bits 0 to 37 (R173). -/
def DirectiveFrame.head (d : DirectiveFrame) : BitVec 38 := d.priority ++ d.sender ++ d.seq ++ d.kind.code ++ d.operand

/-- The 54 frame bits (R173). -/
def DirectiveFrame.wire (d : DirectiveFrame) : BitVec 54 := d.head ++ frameCheck (bitsOf d.head)

/-- The directive that 54 received bits carry, if the check passes and the kind is one of the three (R52). -/
def validDirective (x : BitVec 54) : Option DirectiveFrame :=
  let head : BitVec 38 := x.extractLsb' 16 38
  if frameCheck (bitsOf head) = x.extractLsb' 0 16 then
    match DirectiveKind.ofByte (head.extractLsb' 16 8) with
    | none => none
    | some kind => some { priority := head.extractLsb' 36 2, sender := head.extractLsb' 32 4,
                          seq := head.extractLsb' 24 8, kind := kind, operand := head.extractLsb' 0 16 }
  else none

/-- The target a SET_PERCENT operand names: its first byte (R173). -/
def operandTarget (operand : BitVec 16) : Nat := (operand.extractLsb' 8 8).toNat

/-- The percent a SET_PERCENT operand names: its second byte (R173). -/
def operandPercent (operand : BitVec 16) : Nat := (operand.extractLsb' 0 8).toNat

/-- Whether a directive's operand is in range against a target count (R114, R120): a mask always is. -/
def operandInRange (targets : Nat) (kind : DirectiveKind) (operand : BitVec 16) : Bool :=
  match kind with
  | .setPercent => decide (operandTarget operand < targets) && decide (operandPercent operand ≤ 100)
  | .evict | .readmit => true

/-! ### The descriptor link -/

/-- The messages of the datapath (R133). -/
inductive InMessage where
  | offer (tag : Tag) (target cls : Byte) (length : BitVec 16)
  | recall (tag : Tag)
  | occupancy (target : Byte) (cells : BitVec 16)
  deriving DecidableEq, Repr

/-- The message that a run of bytes is; none for an unknown type or a byte count that is not its type's (R174). -/
def InMessage.ofBytes (b : List Byte) : Option InMessage :=
  if b.length = 7 ∧ byteAt b 0 = 0x01 then some (.offer (word16At b 1) (byteAt b 3) (byteAt b 4) (word16At b 5))
  else if b.length = 3 ∧ byteAt b 0 = 0x02 then some (.recall (word16At b 1))
  else if b.length = 4 ∧ byteAt b 0 = 0x03 then some (.occupancy (byteAt b 1) (word16At b 2))
  else none

/-- The bytes of a message to the datapath (R174). -/
def LinkMessage.bytes : LinkMessage → List Byte
  | .taken tag => 0x81 :: bytes16 tag
  | .refused tag reason => 0x82 :: bytes16 tag ++ [reason.code]
  | .release tag => 0x83 :: bytes16 tag
  | .expired tag reason => 0x84 :: bytes16 tag ++ [reason.code]
  | .recalled tag => 0x85 :: bytes16 tag
  | .recallLate tag => 0x86 :: bytes16 tag
  | .recallUnknown tag => 0x87 :: bytes16 tag
  | .flushed => [0x88]

/-! ### Management frames -/

/-- The nine commands (R163). -/
inductive Command where
  | readView | clearEvents | setEventMask | clearCaptures | clearCounters | postDirective | depart | rejoin | restart
  deriving DecidableEq, Repr

/-- The command byte of a command (R175). -/
def Command.code : Command → Byte
  | .readView => 0x01 | .clearEvents => 0x02 | .setEventMask => 0x03 | .clearCaptures => 0x04
  | .clearCounters => 0x05 | .postDirective => 0x06 | .depart => 0x07 | .rejoin => 0x08 | .restart => 0x09

/-- The command a byte encodes, if any (R175). -/
def Command.ofByte (b : Byte) : Option Command :=
  if b = 0x01 then some .readView else if b = 0x02 then some .clearEvents else if b = 0x03 then some .setEventMask
  else if b = 0x04 then some .clearCaptures else if b = 0x05 then some .clearCounters
  else if b = 0x06 then some .postDirective else if b = 0x07 then some .depart else if b = 0x08 then some .rejoin
  else if b = 0x09 then some .restart else none

/-- The number of parameter bytes of a command (R175). -/
def Command.parameters : Command → Nat
  | .readView => 4 | .clearEvents => 2 | .setEventMask => 2 | .clearCaptures => 1 | .clearCounters => 0
  | .postDirective => 4 | .depart => 2 | .rejoin => 0 | .restart => 0

/-- Whether a command is served in Booting: RESTART, and READ_VIEW of page 0 (R162, step 6). -/
def Command.inBooting (c : Command) (parameters : List Byte) : Bool :=
  match c with
  | .restart => true
  | .readView => parameters.head? == some 0
  | .clearEvents | .setEventMask | .clearCaptures | .clearCounters | .postDirective | .depart | .rejoin => false

/-- What the port makes of a frame (R162). -/
inductive Judgement where
  | ignored
  | refused (status : Status)
  | taken (command : Command) (parameters : List Byte)
  deriving DecidableEq, Repr

/-- The check mode's refusal of a check byte, or of its absence (R162, step 4). -/
def checkRefusal (mode : CheckMode) (check : Option Byte) (computed : Byte) : Option Status :=
  match mode, check with
  | .off, _ => none
  | .optional, none => none
  | .required, none => some .missingCheck
  | .optional, some b => if b = computed then none else some .badCheck
  | .required, some b => if b = computed then none else some .badCheck

/-- The judgement of the bytes of a write transaction, by the first step of R162 that applies. -/
def judge (mode : CheckMode) (booting : Bool) (bytes : List Byte) (offByte : Bool) : Judgement :=
  if offByte then .ignored
  else match bytes with
    | address :: command :: length :: rest =>
      if rest.length ≠ length.toNat ∧ rest.length ≠ length.toNat + 1 then .refused .badLength
      else
        let parameters := rest.take length.toNat
        match checkRefusal mode rest[length.toNat]? (managementCheck (address :: command :: length :: parameters)) with
        | some status => .refused status
        | none =>
          match Command.ofByte command with
          | none => .refused .unknownCommand
          | some c =>
            if booting && !c.inBooting parameters then .refused .notReady
            else if length.toNat ≠ c.parameters then .refused .badLength
            else .taken c parameters
    | _ => .ignored

/-- The bytes of a frame of a command, as they came (R175). -/
def frameBytes (c : Command) (f : Frame) : List Byte := f.address :: c.code :: f.length :: f.rest

/-- The address byte of a write transaction to a station: 0x40 plus its strapped number, then the write bit 0
(R161). -/
def writeAddress (strapped : StationNo) : Byte := (BitVec.ofNat 8 (0x40 + strapped.toNat)) <<< 1

end Sys2Proof.Machine
end

