-- ==== Sys2Proof/Machine/Flags.lean ====
section
/-! DEFINITION. The event flags, their conditions and ATTN (11.4), the LINE condition (R41), and what each station
state permits (R19, R95). -/

namespace Sys2Proof.Machine

open Sys2Proof

/-! ### What a station state permits -/

/-- The states in which the SBI observes the lines: all but Booting and Failsafe (R21, R45). -/
def observes : StationState → Bool
  | .booting | .failsafe => false
  | .listening | .joining | .active | .resync | .leaving | .quiet | .fenced | .excluded => true

/-- The states that drive SYNC (R19). -/
def drivesSync : StationState → Bool
  | .listening | .joining | .active | .resync | .leaving | .fenced => true
  | .booting | .failsafe | .quiet | .excluded => false

/-- The notice-sending states, and the status each sends (R19, R57, R95). -/
def noticeStatus : StationState → Option NoticeStatus
  | .joining => some .joining
  | .active => some .active
  | .resync => some .resync
  | .leaving => some .leaving
  | .fenced => some .fenced
  | .booting | .failsafe | .listening | .quiet | .excluded => none

/-- The releasing states (R95, R152). -/
def releases : StationState → Bool
  | .joining | .active | .resync | .leaving => true
  | .booting | .failsafe | .listening | .quiet | .fenced | .excluded => false

/-- The states whose entry sets every credit above 0 to 0 (R151). -/
def dropsCredit : StationState → Bool
  | .listening | .quiet | .fenced | .excluded => true
  | .booting | .failsafe | .joining | .active | .resync | .leaving => false

/-- The refusal an offer meets for the station's state, if any (R95, R137). -/
def offerRefusal : StationState → Option RefusalReason
  | .listening | .joining | .active | .resync => none
  | .leaving => some .leaving
  | .booting | .failsafe | .quiet | .fenced | .excluded => some .notServing

/-- The states in which the tally is run (R83). -/
def tallies : StationState → Bool
  | .listening | .joining | .active | .resync | .leaving => true
  | .booting | .failsafe | .quiet | .fenced | .excluded => false

/-! ### Line faults -/

/-- The LINE condition (R41). -/
def LineFaults.any (f : LineFaults) : Bool := f.syncLow || f.syncHigh || f.vetoLow || f.sdatLow

/-! ### Event flags -/

/-- The bit of a flag in an event mask value (12.1, R175). -/
def eventBit (e : Event) : BitVec 14 := (1 : BitVec 14) <<< e.bit

/-- Whether a flag is set. -/
def Mgmt.flag (m : Mgmt) (e : Event) : Bool := m.flags.getLsbD e.bit

/-- A flag set at its event (R166). -/
def Mgmt.raise (m : Mgmt) (e : Event) : Mgmt := { m with flags := m.flags ||| eventBit e }

/-- A flag set when its event happened. -/
def Mgmt.raiseIf (m : Mgmt) (c : Bool) (e : Event) : Mgmt := if c then m.raise e else m

/-- A monitor is in use when its target is below T (chapter 8). -/
def inUse (s : State) (t : Fin 4) : Bool := decide (t.val < s.loader.plan.targets)

/-- Whether the condition of a flag holds; the eight other flags have none (R166). -/
def State.condition (s : State) : Event → Bool
  | .line => s.sbi.faults.any
  | .fallback => s.alloc.standing.origin == .fallback
  | .excluded => s.ctl.station == .excluded
  | .fenced => s.ctl.station == .fenced
  | .stale => allTargets.any fun t => inUse s t && s.monitors[t].state == .stale
  | .failsafe => s.ctl.station == .failsafe
  | .readback | .vetoed | .minority | .cfgFix | .storeFull | .expired | .dirDone | .dirDrop => false

/-- The flags whose condition holds, as an event mask value. -/
def State.conditions (s : State) : BitVec 14 := BitVec.ofBoolListLE (Event.all.map s.condition)

/-- The flags after a CLEAR_EVENTS of a mask: a named flag is cleared unless its condition holds (R166). -/
def clearedFlags (flags named held : BitVec 14) : BitVec 14 := flags &&& ~~~(named &&& ~~~held)

/-- ATTN is asserted while a flag is set that the mask leaves clear, or FAILSAFE (R167); held released while RESET is
low (R12). -/
def State.attn (s : State) : Bool :=
  !s.resetLow && (s.mgmt.flags &&& (~~~s.mgmt.mask ||| eventBit .failsafe)) != 0

end Sys2Proof.Machine
end

