-- ==== Sys2Proof/Machine/Ops.lean ====
section
/-! DEFINITION. The shared operations over the state: counting and recording, the passing of time, line faults, the
abandoning of what is on the lines, the queues of the Descriptor Store, and the entries to station states. -/

namespace Sys2Proof.Machine

open Sys2Proof

/-! ### Blocks -/

def State.modSbi (s : State) (f : Sbi → Sbi) : State := { s with sbi := f s.sbi }
def State.modCensus (s : State) (f : Census → Census) : State := { s with census := f s.census }
def State.modAlloc (s : State) (f : Alloc → Alloc) : State := { s with alloc := f s.alloc }
def State.modCtl (s : State) (f : Control → Control) : State := { s with ctl := f s.ctl }
def State.modLoader (s : State) (f : Loader → Loader) : State := { s with loader := f s.loader }
def State.modStore (s : State) (f : Store → Store) : State := { s with store := f s.store }
def State.modMeter (s : State) (f : Meter → Meter) : State := { s with meter := f s.meter }
def State.modMgmt (s : State) (f : Mgmt → Mgmt) : State := { s with mgmt := f s.mgmt }

/-- The monitors, each changed by a function of its target. -/
def State.modMonitors (s : State) (f : Fin 4 → Monitor → Monitor) : State :=
  { s with monitors := Vector.ofFn fun t => f t s.monitors[t] }

/-- A message sent to the datapath (R133). -/
def State.send (s : State) (m : LinkMessage) : State := { s with sent := s.sent ++ [m] }

/-- The plan in force. -/
abbrev State.plan (s : State) : Plan := s.loader.plan

/-- The Local Settings in force. -/
abbrev State.settings (s : State) : Settings := s.loader.settings

/-- The station's own number (00_scope.md, "Station"). -/
abbrev State.own (s : State) : StationNo := s.loader.strapped

/-- The Admin Record in force (chapter 4). -/
abbrev State.admin (s : State) : Admin := s.alloc.standing.admin

/-! ### Counting and recording -/

/-- A saturating count raised by 1 (00_scope.md, "Saturation"). -/
def satInc (max n : Nat) : Nat := min (n + 1) max

/-- The maximum of the counters (R170). -/
def counterMax : Nat := 4294967295

/-- A counter raised by `k` events, saturating (R170). -/
def countUp (k n : Nat) : Nat := min (n + k) counterMax

def State.modCounters (s : State) (f : Counters → Counters) : State :=
  s.modMgmt fun m => { m with counters := f m.counters }

/-- An event recorded in a capture record (R168). -/
def Capture.record {α : Type} (c : Capture α) (e : α) : Capture α :=
  match c.first with
  | none => { first := some e, count := 1 }
  | some _ => { c with count := satInc 15 c.count }

def State.recordBus (s : State) (e : BusEvent) : State := s.modMgmt fun m => { m with bus := m.bus.record e }

/-- A Bus capture event recorded when its fault begins (R41). -/
def State.recordBusIf (s : State) (c : Bool) (e : BusEvent) : State := if c then s.recordBus e else s

def State.recordConfig (s : State) (e : ConfigEvent) : State :=
  s.modMgmt fun m => { m with config := m.config.record e }

def State.raise (s : State) (e : Event) : State := s.modMgmt fun m => m.raise e

def State.raiseIf (s : State) (c : Bool) (e : Event) : State := if c then s.raise e else s

/-! ### Time -/

/-- Bit times in a microsecond (R20). -/
def bitTimes (tenths : Nat) : Nat := 10 * tenths

/-- The settle limit: 96.0 µs after the mark (R24, R42). -/
def settleLimit : Nat := bitTimes 960

/-- The start of a census slot: 2.0 + 4.0k µs after the mark (R24). -/
def slotStart (k : StationNo) : Nat := bitTimes (20 + 40 * k.toNat)

/-- The end of a census slot: 6.0 + 4.0k µs after the mark (R24). -/
def slotEnd (k : StationNo) : Nat := bitTimes (60 + 40 * k.toNat)

/-- E_len in bit times (R4, R21). -/
def State.epochBitTimes (s : State) : Nat := bitTimes (10 * s.plan.epochLength)

/-- The boundaries that time alone crosses: the mark guard ends at 2.0 µs, the settle at the settle limit (R24). -/
def Phase.after (p : Phase) (timer : Nat) : Phase :=
  match p with
  | .markGuard => if bitTimes 20 ≤ timer then .slot 0 else .markGuard
  | .settle => if settleLimit ≤ timer then .idle else .settle
  | p => p

/-- The place of a phase in the order of R24. The three positions that belong to no phase stand after all. -/
def Phase.rank : Phase → Nat
  | .markGuard => 0
  | .slot k => k.toNat + 1
  | .directiveWindow => 17
  | .vetoWindow => 18
  | .settle => 19
  | .idle => 20
  | .unaligned | .stalled | .suspended => 21

/-- The SBI after `d` bit times: the timer runs, and holds at E_len (R21, R22). -/
def Sbi.passTime (b : Sbi) (limit d : Nat) : Sbi :=
  if b.running then
    let timer := min (b.timer + d) (max limit b.timer)
    { b with timer := timer, phase := b.phase.after timer }
  else b

/-- The pacer after `d` units of 10 ns (R154). -/
def Meter.passTime (m : Meter) (d : Nat) : Meter := if m.running then { m with sinceStep := m.sinceStep + d } else m

/-- `d` bit times pass. -/
def State.passTime (s : State) (d : Nat) : State :=
  { s with sbi := s.sbi.passTime s.epochBitTimes d, meter := s.meter.passTime d }

/-- The epoch timer reads `t`, unless it has gone past it. -/
def State.advanceTo (s : State) (t : Nat) : State := s.passTime (t - s.sbi.timer)

/-! ### Line faults -/

/-- A new line-fault state; LINE is set when the LINE condition begins (R41). -/
def State.setFaults (s : State) (f : LineFaults) : State :=
  (s.modSbi fun b => { b with faults := f }).raiseIf (!s.sbi.faults.any && f.any) .line

/-- The line-fault state changed by a function. -/
def State.modFaults (s : State) (f : LineFaults → LineFaults) : State := s.setFaults (f s.sbi.faults)

/-! ### What is on the lines -/

/-- The level the station drives on SDAT at a bit time of the slot or window in progress: the lead recessive, the
start bit at bit time 20, then the frame bits, a 0 as dominant (R26, R29, R30). Released once withdrawn, abandoned or
released. -/
def Sbi.sdatDrive (b : Sbi) (bitTime : Nat) : Level :=
  if b.readback = .driving ∧ 20 ≤ bitTime then
    if bitTime = 20 then (if b.txBuffer.isSome then .dominant else .recessive)
    else
      let bits := match b.txBuffer with
        | none => []
        | some (.notice n) => n.bits
        | some (.directive d) => bitsOf d.wire
      if bits.getD (bitTime - 21) true then .recessive else .dominant
  else .recessive

/-- Whether the timer stands past the last bit of the frame on the line: bit 364 of the sender's slot, bit 74 of the
directive window, whichever phase stands after it (R26, R30). -/
def Sbi.frameDriven (b : Sbi) : Bool :=
  match b.txBuffer with
  | some (.notice n) => decide (slotStart n.sender + 365 ≤ b.timer)
  | some (.directive _) => decide (bitTimes 660 + 75 ≤ b.timer)
  | none => false

/-- The readback state of a frame on the line that the new station state no longer permits (R19, R26, R30). -/
def Sbi.cutShort (b : Sbi) : Readback := if b.frameDriven then .complete else .released

/-- What a change to a station state releases (R19). -/
def Sbi.releaseFor (b : Sbi) (st : StationState) : Sbi :=
  { b with
    syncDrive := if drivesSync st then b.syncDrive else .released
    vetoDrive := b.vetoDrive && st == .active
    readback :=
      if b.readback = .driving then
        match b.txBuffer with
        | some (.notice _) => if (noticeStatus st).isSome then .driving else b.cutShort
        | some (.directive _) => if st = .active then .driving else b.cutShort
        | none => .driving
      else b.readback }

/-- The slot or window in progress abandoned with no outcome, and the transmission in it released (R28). -/
def Sbi.abandon (b : Sbi) : Sbi := { b with txBuffer := none, readback := .idle }

/-- The SBI at the start of an epoch: the timer at 0, nothing driven on SDAT and VETO (R23, R37). -/
def Sbi.newEpoch (b : Sbi) : Sbi :=
  { b.abandon with timer := 0, vetoDrive := false, vetoAsked := false, vetoed := false, windowClosed := false }

/-! ### Descriptor Store -/

/-- The records held, queue 0 to queue 11, oldest first within each (R109, R145). -/
def Store.held (st : Store) : List Descriptor := st.queues.toList.flatten

/-- The held count (R135). -/
def Store.heldCount (st : Store) : Nat := st.held.length

/-- The queued cells of a queue (R135). -/
def queuedCells (q : List Descriptor) : Nat := (q.map (·.cells)).sum

/-- Whether a tag is in the tag index (R135). -/
def Store.hasTag (st : Store) (tag : Tag) : Bool := st.held.any fun d => d.tag == tag

/-- The record of a tag removed, wherever it stands (R143). -/
def Store.removeTag (st : Store) (tag : Tag) : Store :=
  { st with queues := st.queues.map fun q => q.filter fun d => d.tag != tag }

/-- The cells a frame costs: ceil(length / 128) (R135). -/
def cellsOf (length : Nat) : Nat := (length + 127) / 128

/-- A record at the tail of its queue, its cells in the current arrivals (R138, R140). -/
def Store.take (st : Store) (d : Descriptor) : Store :=
  let q := queueIndex d.target d.cls
  { st with queues := st.queues.set q (st.queues[q] ++ [d]),
            arrivals := st.arrivals.set q (min (st.arrivals[q] + d.cells) 65535) }

/-- The head of a queue removed, its tag the newest of the release history (R141, R142). -/
def Store.release (st : Store) (q : Fin 12) (d : Descriptor) : Store :=
  { st with queues := st.queues.set q st.queues[q].tail,
            history := (if st.history.length < Config.historyLength then st.history else st.history.tail) ++ [d.tag] }

/-- The records that a mark expires: those whose age equals the age limit (R145). -/
def Store.aged (st : Store) (limit : Nat) : List Descriptor := st.held.filter fun d => d.age == limit

/-- The records that a mark leaves, each a mark older (R145). -/
def Store.ageing (st : Store) (limit : Nat) : Store :=
  { st with queues := st.queues.map fun q =>
      (q.filter fun d => d.age != limit).map fun d => { d with age := d.age + 1 } }

/-- The arrival shift of a mark (R140). -/
def Store.shift (st : Store) : Store :=
  { st with previous := st.arrivals, arrivals := Vector.replicate 12 0 }

/-- All queues emptied (R109). -/
def Store.empty (st : Store) : Store := { st with queues := Vector.replicate 12 [] }

/-- Descriptors reported expired: the messages in order, the counter, and the flag when there is one (R109, R145). -/
def State.reportExpired (s : State) (ds : List Descriptor) (reason : ExpiryReason) : State :=
  ({ s with sent := s.sent ++ ds.map fun (d : Descriptor) => LinkMessage.expired d.tag reason }.modCounters fun c =>
    { c with expiries := countUp ds.length c.expiries }).raiseIf (!ds.isEmpty) .expired

/-- Every held descriptor expired at a state entry (R109). -/
def State.flush (s : State) (reason : ExpiryReason) : State :=
  (s.reportExpired s.store.held reason).modStore Store.empty

/-! ### Entries to station states -/

/-- The Release Meter at an entry to a station state (R151, R153, R154). -/
def Meter.enter (m : Meter) (st : StationState) : Meter :=
  if releases st then { m with position := 0, halt := false, running := true, sinceStep := 0 }
  else { m with credits := if dropsCredit st then m.credits.map (min · 0) else m.credits, running := false }

/-- The station state changed: the lines it no longer permits are released (R19) and the Release Meter takes its entry
(R151, R153, R154). -/
def State.enterState (s : State) (st : StationState) : State :=
  { s with ctl := { s.ctl with station := st }, sbi := s.sbi.releaseFor st, meter := s.meter.enter st }

/-- The Directive Queue emptied, each directive dropped (R110). -/
def State.dropDirectives (s : State) : State :=
  (s.modCtl fun c => { c with queue := [], awaiting := false }).raiseIf (!s.ctl.queue.isEmpty) .dirDrop

/-- The end of a Leaving drain (R106): the store flushed with reason DEPART, the Directive Queue emptied, Quiet. -/
def State.endDrain (s : State) : State := ((s.flush .depart).dropDirectives).enterState .quiet

/-- The drain ended when the store is empty (R106, ending 2). -/
def State.endDrainIfEmpty (s : State) : State :=
  if s.ctl.station = .leaving ∧ s.store.heldCount = 0 then s.endDrain else s

/-- Entry to Fenced (R102). -/
def State.enterFenced (s : State) : State := (((s.flush .fence).dropDirectives).enterState .fenced).raise .fenced

/-- Entry to Excluded (R108). -/
def State.enterExcluded (s : State) (cause : Cause) : State :=
  ((((s.flush .exclude).dropDirectives).enterState .excluded).modCtl fun c => { c with cause := cause }).raise .excluded

/-- Entry to Joining (R97, R103). -/
def State.enterJoining (s : State) : State :=
  (s.enterState .joining).modCtl fun c => { c with streak := 0 }

/-- Entry to Resync (R101). -/
def State.enterResync (s : State) : State :=
  (s.enterState .resync).modCtl fun c => { c with streak := 0 }

/-- The end of a monitor's mask at entry to Active (R128). -/
def Monitor.endMask (debounce : Nat) (m : Monitor) : Monitor :=
  if m.state = .masked then
    if m.highCount = debounce then { m with state := .pressed, highCount := 0, lowCount := 0 }
    else { m with state := .clear }
  else m

/-- Entry to Active (R100, R128). -/
def State.enterActive (s : State) : State :=
  (s.enterState .active).modMonitors fun t m =>
    if inUse s t then m.endMask s.settings.monitors[t].debounce else m

/-- Entry to Listening (R21, R44, R96, R125, R151). From Booting the timer starts from 0; from Quiet it runs on. -/
def State.enterListening (s : State) : State :=
  let s := s.enterState .listening
  let s := s.modCtl fun c => { c with listenCount := 0, streak := 0 }
  let s := s.modCensus fun c => { c with peers := Vector.replicate 16 PeerEntry.reset, activeHeard := false }
  let s := s.modSbi fun b => { b with clashStreak := 0, running := true }
  s.modMonitors fun t m =>
    if inUse s t then { m with state := .masked, highCount := 0, lowCount := 0, marks := 0 } else m

end Sys2Proof.Machine
end

