-- ==== Sys2Proof/Machine/Link.lean ====
section
/-! DEFINITION. The descriptor link (chapter 9) and the readings of the Pressure Monitors (8.2): the meanings of OFFER,
RECALL, OCCUPANCY and LINK_MESSAGE_DISCARD. -/

namespace Sys2Proof.Machine

open Sys2Proof

/-! ### Offers -/

/-- The verdict on an offer (R137). -/
inductive OfferVerdict where
  | refused (reason : RefusalReason)
  | taken (d : Descriptor)
  deriving DecidableEq, Repr

/-- The descriptor of an offer whose fields are in range (R137 check 2, R138). -/
def offeredDescriptor (targets : Nat) (tag : Tag) (target cls : Byte) (length : BitVec 16) : Option Descriptor :=
  match TrafficClass.ofByte cls with
  | none => none
  | some c =>
    if h : target.toNat < 4 then
      if target.toNat < targets ∧ 64 ≤ length.toNat ∧ length.toNat ≤ 9216 then
        some { tag := tag, target := ⟨target.toNat, h⟩, cls := c, length := length.toNat
               cells := cellsOf length.toNat, age := 0 }
      else none
    else none

/-- The checks of the target, the tag and the room, in order (R137 checks 3 to 6). -/
def State.roomVerdict (s : State) (d : Descriptor) : OfferVerdict :=
  let q := queueIndex d.target d.cls
  if s.admin.percents[d.target] = 0 then .refused .targetHeld
  else if s.store.hasTag d.tag then .refused .tagBusy
  else if Config.storeCapacity ≤ s.store.heldCount then .refused .storeFull
  else if s.settings.queueLimits[q] ≤ s.store.queues[q].length then .refused .queueFull
  else .taken d

/-- The six checks of an offer, in order (R137). -/
def State.judgeOffer (s : State) (tag : Tag) (target cls : Byte) (length : BitVec 16) : OfferVerdict :=
  match offerRefusal s.ctl.station with
  | some reason => .refused reason
  | none =>
    match offeredDescriptor s.plan.targets tag target cls length with
    | none => .refused .badField
    | some d => s.roomVerdict d

/-- Whether a refusal is one for room, which sets STORE_FULL (R139). -/
def RefusalReason.forRoom : RefusalReason → Bool
  | .storeFull | .queueFull => true
  | .notServing | .leaving | .badField | .targetHeld | .tagBusy => false

/-- An offer refused (R139). -/
def State.refuseOffer (s : State) (tag : Tag) (reason : RefusalReason) : State :=
  ((s.send (.refused tag reason)).modCounters fun c => { c with offersRefused := countUp 1 c.offersRefused }).raiseIf
    reason.forRoom .storeFull

/-- An offer taken (R138). -/
def State.takeOffer (s : State) (d : Descriptor) : State :=
  ((s.modStore fun st => st.take d).send (.taken d.tag)).modCounters fun c =>
    { c with offersTaken := countUp 1 c.offersTaken }

/-- An offer answered (R137, R138, R139). -/
def State.answerOffer (s : State) (tag : Tag) (target cls : Byte) (length : BitVec 16) : State :=
  match s.judgeOffer tag target cls length with
  | .refused reason => s.refuseOffer tag reason
  | .taken d => s.takeOffer d

/-! ### Recalls -/

/-- A recall answered (R143). -/
def State.answerRecall (s : State) (tag : Tag) : State :=
  if s.store.hasTag tag then
    (((s.modStore fun st => st.removeTag tag).send (.recalled tag)).modCounters fun c =>
      { c with recalls := countUp 1 c.recalls }).endDrainIfEmpty
  else if s.store.history.contains tag then s.send (.recallLate tag)
  else s.send (.recallUnknown tag)

/-! ### Readings -/

/-- A monitor in Masked after a reading (R126, R127). -/
def Monitor.readMasked (th : Thresholds) (cells : Nat) (m : Monitor) : Monitor :=
  if th.high ≤ cells then { m with highCount := satInc th.debounce m.highCount }
  else { m with state := .clear, highCount := 0 }

/-- A monitor in Clear after a reading (R126). -/
def Monitor.readClear (th : Thresholds) (cells : Nat) (m : Monitor) : Monitor :=
  if th.high ≤ cells then
    if th.debounce ≤ m.highCount + 1 then { m with state := .pressed, highCount := 0, lowCount := 0 }
    else { m with highCount := m.highCount + 1 }
  else { m with highCount := 0 }

/-- A monitor in Pressed after a reading (R126). -/
def Monitor.readPressed (th : Thresholds) (cells : Nat) (m : Monitor) : Monitor :=
  if cells ≤ th.low then
    if th.debounce ≤ m.lowCount + 1 then { m with state := .clear, highCount := 0, lowCount := 0 }
    else { m with lowCount := m.lowCount + 1 }
  else { m with lowCount := 0 }

/-- A monitor after a reading of its target (R126). -/
def Monitor.read (th : Thresholds) (cells : Nat) (m : Monitor) : Monitor :=
  let m := { m with lastReading := cells, marks := 0 }
  match m.state with
  | .masked => m.readMasked th cells
  | .clear => m.readClear th cells
  | .pressed => m.readPressed th cells
  | .stale => { m with state := .clear, highCount := 0, lowCount := 0 }

/-- An occupancy report: discarded in Booting and Failsafe (R125), ignored and counted at or above T, otherwise a
reading (R126). -/
def State.takeReport (s : State) (target : Byte) (cells : BitVec 16) : State :=
  if !observes s.ctl.station then s
  else if target.toNat < s.plan.targets then
    s.modMonitors fun t m => if t.val = target.toNat then m.read s.settings.monitors[t] cells.toNat else m
  else s.modCounters fun c => { c with ignoredReports := countUp 1 c.ignoredReports }

/-! ### Meanings -/

/-- OFFER (R137); discarded while RESET is low (R12). -/
def execOffer (tag : Tag) (target cls : Byte) (length : BitVec 16) (s : State) : Host.Outcome State Fault Refusal :=
  .next <| if s.resetLow then s else s.answerOffer tag target cls length

/-- RECALL (R143); discarded while RESET is low (R12). -/
def execRecall (tag : Tag) (s : State) : Host.Outcome State Fault Refusal :=
  .next <| if s.resetLow then s else s.answerRecall tag

/-- OCCUPANCY (R126); discarded while RESET is low (R12). -/
def execOccupancy (target : Byte) (cells : BitVec 16) (s : State) : Host.Outcome State Fault Refusal :=
  .next <| if s.resetLow then s else s.takeReport target cells

/-- LINK_MESSAGE_DISCARD (R133, R174): bytes that are none of the three messages are discarded without an answer; bytes
that are one of them after all are taken as that message (notes/assumptions/19.md). -/
def execLinkMessageDiscard (bytes : List Byte) (s : State) : Host.Outcome State Fault Refusal :=
  .next <|
    if s.resetLow then s
    else match InMessage.ofBytes bytes with
      | none => s
      | some (.offer tag target cls length) => s.answerOffer tag target cls length
      | some (.recall tag) => s.answerRecall tag
      | some (.occupancy target cells) => s.takeReport target cells

end Sys2Proof.Machine
end

