-- ==== Sys2Proof/Machine/Allocation.lean ====
section
/-! DEFINITION. The division of the targets' capacities (chapter 4): the grant places of a plan, the effective
capacities, the wants, the floor step, the share rounds and the residue walk, the Fallback allocation, and the digest
of a record. The grants of all places stand in one list, in plan position order; each step works on the cells it
selects and leaves the others. -/

namespace Sys2Proof.Machine

open Sys2Proof

/-! ### Grant places -/

/-- A grant place: one station's share of a plan position, with the number of its tier among its target's tiers
(R5, R6, R60). -/
structure GrantPlace where
  station : StationNo
  target : Fin 4
  cls : TrafficClass
  weight : Nat
  floor : Nat
  ceiling : Nat
  reserve : Bool
  tier : Nat
  deriving DecidableEq, Repr

/-- The stations a plan entry names; ALL stands for sixteen sub-entries, 0 to 15 in that order (R5). -/
def PlanEntry.stations (e : PlanEntry) : List StationNo :=
  match e.station with
  | some k => [k]
  | none => allStations

/-- The grant places of a list of plan entries, given how many tiers of each target are closed already. The tier-end
flag of an ALL entry closes the tier after the last of its sub-entries (R5). -/
def expandEntries : Vector Nat 4 → List PlanEntry → List GrantPlace
  | _, [] => []
  | closed, e :: es =>
    (e.stations.map fun k =>
      { station := k, target := e.target, cls := e.cls, weight := e.weight, floor := e.floor, ceiling := e.ceiling,
        reserve := e.reserve, tier := closed[e.target] }) ++
    expandEntries (if e.tierEnd then closed.set e.target (closed[e.target] + 1) else closed) es

/-- The grant places of a plan, in plan order (R60). -/
def Plan.places (p : Plan) : List GrantPlace := expandEntries (Vector.replicate 4 0) p.entries

/-- The number of tiers of a target (R6). -/
def Plan.tierCount (p : Plan) (t : Fin 4) : Nat := (p.entries.filter fun e => e.target == t && e.tierEnd).length

/-- The targets in use: those below T (R4). -/
def Plan.inUseTargets (p : Plan) : List (Fin 4) := allTargets.filter fun t => decide (t.val < p.targets)

/-! ### Cells -/

/-- A grant place in a computation: what its entry wants, and what it has been granted (R66). -/
structure Cell where
  place : GrantPlace
  want : Nat
  grant : Nat
  deriving DecidableEq, Repr

/-- The place of a station in a computation (R66, R67). -/
inductive Role where
  | member | guest | inactive
  deriving DecidableEq, Repr

/-- The role of a station, from the member and guest sets (R66). -/
def roleIn (members guests : StationMask) (k : StationNo) : Role :=
  if holds members k then .member else if holds guests k then .guest else .inactive

/-- The sum of the grants of earlier entries that name the same station, target and class (R66). -/
def grantedBefore (earlier : List Cell) (p : GrantPlace) : Nat :=
  ((earlier.filter fun c => c.place.station == p.station && c.place.target == p.target && c.place.cls == p.cls).map
    (·.grant)).sum

/-- The base of an entry (R66). -/
def baseOf (demand earlierGrants ceiling : Nat) : Nat := min (demand - earlierGrants) ceiling

/-- The want of an entry, by the role of its station (R66, R67). -/
def wantOf (role : Role) (p : GrantPlace) (base : Nat) : Nat :=
  match role with
  | .member => if p.reserve then max base p.floor else base
  | .guest => min base p.floor
  | .inactive => 0

/-- Whether a place belongs to a tier of a target. -/
def inTier (t : Fin 4) (tier : Nat) (p : GrantPlace) : Bool := p.target == t && p.tier == tier

/-- The wants of a tier fixed at its start (R66, R67): `earlier` are the cells before, latest first. -/
def fixWants (t : Fin 4) (tier : Nat) (role : StationNo → Role) (demand : StationNo → Fin 12 → Nat) :
    List Cell → List Cell → List Cell
  | _, [] => []
  | earlier, c :: cs =>
    let c' := if inTier t tier c.place then
        { c with want := wantOf (role c.place.station) c.place
                   (baseOf (demand c.place.station (queueIndex c.place.target c.place.cls))
                     (grantedBefore earlier c.place) c.place.ceiling) }
      else c
    c' :: fixWants t tier role demand (c' :: earlier) cs

/-- The selected cells served in plan order, each with the smaller of an amount and what remains; the remainder is
reduced before the next (R69, R71, R76). -/
def serve (select : Cell → Bool) (amount : Cell → Nat) : Nat → List Cell → List Cell × Nat
  | r, [] => ([], r)
  | r, c :: cs =>
    if select c then
      let x := min (amount c) r
      let rest := serve select amount (r - x) cs
      ({ c with grant := c.grant + x } :: rest.1, rest.2)
    else
      let rest := serve select amount r cs
      (c :: rest.1, rest.2)

/-- The share of an entry in a round: the smaller of its unmet want and floor(R0 × weight / W) (R70). -/
def shareOf (total weights : Nat) (c : Cell) : Nat := min (c.want - c.grant) (total * c.place.weight / weights)

/-- At most `fuel` share rounds over the selected cells below their want, from a remainder (R70). -/
def shareRounds (select : Cell → Bool) : Nat → Nat → List Cell → List Cell × Nat
  | 0, r, cells => (cells, r)
  | fuel + 1, r, cells =>
    let short : Cell → Bool := fun c => select c && decide (c.grant < c.want)
    let weights := ((cells.filter short).map (·.place.weight)).sum
    let given := ((cells.filter short).map (shareOf r weights)).sum
    if given = 0 then (cells, r)
    else shareRounds select fuel (r - given)
      (cells.map fun c => if short c then { c with grant := c.grant + shareOf r weights c } else c)

/-- One tier: the wants, the floor step, at most four share rounds, the residue walk (R68). -/
def runTier (role : StationNo → Role) (demand : StationNo → Fin 12 → Nat) (t : Fin 4) (tier : Nat)
    (state : List Cell × Nat) : List Cell × Nat :=
  let select : Cell → Bool := fun c => inTier t tier c.place && role c.place.station != .inactive
  let wanted := fixWants t tier role demand [] state.1
  let floors := serve select (fun c => min c.place.floor c.want) state.2 wanted
  let shared := shareRounds select 4 floors.2 floors.1
  serve select (fun c => c.want - c.grant) shared.2 shared.1

/-- One target: its tiers in plan order, the remainder carried from tier to tier (R68). -/
def runTarget (plan : Plan) (role : StationNo → Role) (demand : StationNo → Fin 12 → Nat) (capacity : Nat)
    (cells : List Cell) (t : Fin 4) : List Cell :=
  ((List.range (plan.tierCount t)).foldl (fun st tier => runTier role demand t tier st) (cells, capacity)).1

/-- The cells of a plan before any grant. -/
def Plan.cells (p : Plan) : List Cell := p.places.map fun g => { place := g, want := 0, grant := 0 }

/-- The grants of a computed record (R63 step 6, R68). -/
def computeCells (plan : Plan) (role : StationNo → Role) (demand : StationNo → Fin 12 → Nat)
    (capacities : Vector Nat 4) : List Cell :=
  plan.inUseTargets.foldl (fun cells t => runTarget plan role demand capacities[t] cells t) plan.cells

/-- One target of the Fallback allocation: each active entry its floor in plan order, as far as capacity reaches,
without regard to tiers (R76). -/
def fallbackTarget (role : StationNo → Role) (capacity : Nat) (cells : List Cell) (t : Fin 4) : List Cell :=
  (serve (fun c => c.place.target == t && role c.place.station != .inactive) (fun c => c.place.floor)
    capacity cells).1

/-- The grants of a Fallback record (R76). -/
def fallbackCells (plan : Plan) (role : StationNo → Role) (capacities : Vector Nat 4) : List Cell :=
  plan.inUseTargets.foldl (fun cells t => fallbackTarget role capacities[t] cells t) plan.cells

/-! ### Records -/

/-- The effective capacity of a target: floor(C_t × a_t × p / 10,000), p being p_t when the target counts as Pressed
and 100 otherwise (R64). -/
def effectiveCapacity (plan : Plan) (admin : Admin) (pressure : TargetSet) (t : Fin 4) : Nat :=
  plan.capacity[t] * admin.percents[t] * (if pressure.getLsbD t.val then plan.pressedPercent[t] else 100) / 10000

/-- The effective capacities of the targets in use; 0 stands for the others (R60, R64). -/
def effectiveCapacities (plan : Plan) (admin : Admin) (pressure : TargetSet) : Vector Nat 4 :=
  Vector.ofFn fun t : Fin 4 =>
    if t.val < plan.targets then effectiveCapacity plan admin pressure t else 0

/-- The bytes of an Admin Record under the digest (R72). -/
def Admin.bytes (a : Admin) : List Byte := a.percents.toList.map byte ++ bytes16 a.evicted

/-- The allocation digest: every grant as two bytes, the four target percents, the evicted mask (R72). -/
def allocationDigest (grants : List Nat) (admin : Admin) : Digest := digestOf (grants.flatMap nat16 ++ admin.bytes)

/-- The standing record sized to a plan when its load completes: every grant place 0 (R61). -/
def Record.sized (plan : Plan) : Record :=
  let grants := plan.places.map fun _ => 0
  { Record.reset with grants := grants, digest := allocationDigest grants Admin.reset }

/-- A record formed from its sets, Admin Record and grants (R60, R72). -/
def formRecord (plan : Plan) (members guests : StationMask) (pressure : TargetSet) (admin : Admin) (origin : Origin)
    (cells : List Cell) : Record :=
  let grants := cells.map (·.grant)
  { grants := grants, capacities := effectiveCapacities plan admin pressure, members := members, guests := guests,
    pressure := pressure, admin := admin, origin := origin, digest := allocationDigest grants admin }

/-- A computed record (R63, steps 5 to 7). -/
def computedRecord (plan : Plan) (members guests : StationMask) (pressure : TargetSet) (admin : Admin)
    (demand : StationNo → Fin 12 → Nat) : Record :=
  formRecord plan members guests pressure admin .computed
    (computeCells plan (roleIn members guests) demand (effectiveCapacities plan admin pressure))

/-- The Fallback allocation formed from a standing record (R76). -/
def fallbackRecord (plan : Plan) (r : Record) : Record :=
  formRecord plan r.members r.guests r.pressure r.admin .fallback
    (fallbackCells plan (roleIn r.members r.guests) (effectiveCapacities plan r.admin r.pressure))

/-- The station grant of a station for a target and class: the sum over the places that name it, saturating at 65,535
(R60). -/
def stationGrant (plan : Plan) (r : Record) (k : StationNo) (t : Fin 4) (c : Fin 3) : Nat :=
  min ((((plan.places.zip r.grants).filter fun pg =>
    pg.1.station == k && pg.1.target == t && pg.1.cls.index == c).map (·.2)).sum) 65535

/-! ### The void pending record -/

/-- The pending void count of a void epoch (R75, R81). -/
def voidCountAfter (plan : Plan) (count : Nat) : Nat := satInc plan.voidLimit count

/-- The void pending record: the standing record carried below the void limit, the Fallback allocation at it
(R75, R76). -/
def voidRecord (plan : Plan) (a : Alloc) : Record :=
  if voidCountAfter plan a.voidCount < plan.voidLimit then { a.standing with origin := .carried }
  else fallbackRecord plan a.standing

/-- The void pending record and its count formed (R75, R76, R77). -/
def Alloc.formVoid (a : Alloc) (plan : Plan) : Alloc :=
  { a with pending := some (voidRecord plan a), pendingVoid := voidCountAfter plan a.voidCount, settle := .complete
           handOver := none }

/-- Promotion: the pending record becomes the standing one, the pending void count comes into force (R73). -/
def Alloc.promote (a : Alloc) : Alloc :=
  match a.pending with
  | none => { a with settle := .idle, handOver := none }
  | some r => { a with standing := r, voidCount := a.pendingVoid, pending := none, settle := .idle, handOver := none }

end Sys2Proof.Machine
end

