-- ==== Sys2Proof/Machine/Loader.lean ====
section
/-! DEFINITION. The Configuration Loader (chapter 1, R176): what each section holds, the checks of each section in the
order they are made, the two completions of a load, and the meaning of GRANULE_READ. -/

namespace Sys2Proof.Machine

open Sys2Proof

/-! ### Field checks -/

/-- A field check: the byte offset recorded when it fails, and whether it passes (R15). -/
abbrev FieldCheck := Nat × Bool

/-- The offset of the first check that fails (R15). -/
def firstFailure (checks : List FieldCheck) : Option Nat := (checks.find? fun c => !c.2).map (·.1)

/-- A number inside a range, both ends included. -/
def within (low high n : Nat) : Bool := decide (low ≤ n) && decide (n ≤ high)

/-! ### Image header -/

/-- The image identity (R176). -/
def imageIdentity : BitVec 32 := 0x73161A0C

/-- A directory entry: start granule and length (R176). -/
def directoryEntry (d : List Byte) (o : Nat) : Granules := { start := nat16At d o, length := nat16At d (o + 2) }

/-- The placement limits: after the last granule of the image header, up to granule 65,535 (R1). -/
def Granules.placed (g : Granules) : Bool := decide (9 ≤ g.start) && decide (g.start + g.length ≤ 65536)

/-- The offset of a station's directory entry (R176). -/
def localEntryOffset (k : StationNo) : Nat := 8 + 4 * k.toNat

/-! ### Plan section -/

/-- The offset of the entry of a plan position (R176). -/
def planEntryOffset (n : Nat) : Nat := 19 + 10 * n

/-- The checks of the plan header, and of the entry count against the length of the section (R4, R14). -/
def planHeaderChecks (d : List Byte) : List FieldCheck :=
  [(0, within 100 2000 (nat16At d 0)), (2, within 1 4 (nat8At d 2))]
    ++ (allTargets.map fun t => (3 + 2 * t.val, decide (1 ≤ nat16At d (3 + 2 * t.val))))
    ++ (allTargets.map fun t => (11 + t.val, within 25 100 (nat8At d (11 + t.val))))
    ++ [(15, within 1 15 (nat8At d 15)), (16, within 1 7 (nat8At d 16)), (17, within 1 15 (nat8At d 17)),
        (18, within 1 96 (nat8At d 18)), (18, decide (planEntryOffset (nat8At d 18) + 4 ≤ d.length))]

/-- The checks of one plan entry, at its offset (R5, R6). -/
def planEntryChecks (d : List Byte) (targets o : Nat) : List FieldCheck :=
  [(o, decide (nat8At d o ≤ 15) || nat8At d o == 255), (o + 1, decide (nat8At d (o + 1) < targets)),
   (o + 2, decide (nat8At d (o + 2) ≤ 2)), (o + 3, decide (1 ≤ nat8At d (o + 3))),
   (o + 6, decide (1 ≤ nat16At d (o + 6))), (o + 6, decide (nat16At d (o + 4) ≤ nat16At d (o + 6))),
   (o + 8, decide (nat8At d (o + 8) ≤ 1)), (o + 9, decide (nat8At d (o + 9) ≤ 1))]

/-- The tier-end check of a target: its last entry, if it has one, closes a tier (R6, R15). -/
def tierEndCheck (d : List Byte) (count t : Nat) : List FieldCheck :=
  match ((List.range count).filter fun n => nat8At d (planEntryOffset n + 1) == t).getLast? with
  | none => []
  | some n => [(planEntryOffset n + 9, nat8At d (planEntryOffset n + 9) == 1)]

/-- The checks of a plan section, in order (R14). -/
def planChecks (d : List Byte) : List FieldCheck :=
  planHeaderChecks d
    ++ ((List.range (nat8At d 18)).flatMap fun n => planEntryChecks d (nat8At d 2) (planEntryOffset n))
    ++ ((List.range (nat8At d 2)).flatMap fun t => tierEndCheck d (nat8At d 18) t)

/-- A target byte that its check has passed. -/
def targetOfByte (b : Byte) : Fin 4 := ⟨b.toNat % 4, by omega⟩

/-- A class byte that its check has passed. -/
def classOfByte (b : Byte) : TrafficClass := (TrafficClass.ofByte b).getD .bulk

/-- The plan entry at an offset (R5, R176). -/
def planEntryAt (d : List Byte) (o : Nat) : PlanEntry :=
  { station := if nat8At d o = 255 then none else some ((byteAt d o).setWidth 4)
    target := targetOfByte (byteAt d (o + 1)), cls := classOfByte (byteAt d (o + 2)), weight := nat8At d (o + 3)
    floor := nat16At d (o + 4), ceiling := nat16At d (o + 6), reserve := byteAt d (o + 8) == 1
    tierEnd := byteAt d (o + 9) == 1 }

/-- The plan a section holds (R4, R5, R176). -/
def planOf (d : List Byte) : Plan :=
  { epochLength := nat16At d 0, targets := nat8At d 2
    capacity := Vector.ofFn fun t : Fin 4 => nat16At d (3 + 2 * t.val)
    pressedPercent := Vector.ofFn fun t : Fin 4 => nat8At d (11 + t.val)
    listenEpochs := nat8At d 15, missLimit := nat8At d 16, voidLimit := nat8At d 17
    entries := (List.range (nat8At d 18)).map fun n => planEntryAt d (planEntryOffset n) }

/-! ### Local section -/

/-- The offset of a ring slot (R176). -/
def ringSlotOffset (i : Nat) : Nat := 36 + 4 * i

/-- The checks of one ring slot in use (R9). -/
def ringSlotChecks (d : List Byte) (targets o : Nat) : List FieldCheck :=
  [(o, decide (nat8At d o < targets)), (o + 1, decide (nat8At d (o + 1) ≤ 2)), (o + 2, decide (nat8At d (o + 2) ≤ 1)),
   (o + 3, decide (nat8At d (o + 3) ≤ 1))]

/-- The checks of one monitor threshold set: low below high, at the low field, and the debounce (R8, R15). -/
def monitorChecks (d : List Byte) (o : Nat) : List FieldCheck :=
  [(o + 2, decide (nat16At d (o + 2) < nat16At d o)), (o + 4, within 1 8 (nat8At d (o + 4)))]

/-- The checks of a local section, in section order (R8, R9, R14). -/
def localChecks (d : List Byte) (strapped : StationNo) (targets : Nat) : List FieldCheck :=
  [(0, nat8At d 0 == strapped.toNat), (3, decide (nat8At d 3 ≤ 2)), (4, decide (1 ≤ nat8At d 4))]
    ++ ((List.range 12).map fun q => (5 + 2 * q, within 1 512 (nat16At d (5 + 2 * q))))
    ++ ((List.range 3).map fun c => (29 + 2 * c, decide (nat16At d (29 + 2 * c) ≤ 4095)))
    ++ [(35, within 1 32 (nat8At d 35))]
    ++ ((List.range (nat8At d 35)).flatMap fun i => ringSlotChecks d targets (ringSlotOffset i))
    ++ [(164, within 1 500 (nat16At d 164))]
    ++ ((List.range 4).flatMap fun t => monitorChecks d (166 + 5 * t))
    ++ [(186, decide (1 ≤ nat8At d 186))]

/-- The ring slot at an offset (R9, R176). -/
def ringSlotAt (d : List Byte) (o : Nat) : RingSlot :=
  { target := targetOfByte (byteAt d o), cls := classOfByte (byteAt d (o + 1)), skip := byteAt d (o + 2) == 1
    stop := byteAt d (o + 3) == 1 }

/-- The settings a local section holds (R8, R176). -/
def settingsOf (d : List Byte) : Settings :=
  { eventMask := (word16At d 1).setWidth 14, checkMode := (CheckMode.ofByte (byteAt d 3)).getD .optional
    ageLimit := nat8At d 4, queueLimits := Vector.ofFn fun q : Fin 12 => nat16At d (5 + 2 * q.val)
    banks := Vector.ofFn fun c : Fin 3 => nat16At d (29 + 2 * c.val)
    ring := (List.range (nat8At d 35)).map fun i => ringSlotAt d (ringSlotOffset i)
    stepInterval := nat16At d 164
    monitors := Vector.ofFn fun t : Fin 4 =>
      { high := nat16At d (166 + 5 * t.val), low := nat16At d (168 + 5 * t.val), debounce := nat8At d (170 + 5 * t.val) }
    drainLimit := nat8At d 186 }

/-! ### Digests -/

/-- The digest a section stores, its last four bytes (R7, R10). -/
def storedDigest (d : List Byte) : Digest := word32At d (d.length - 4)

/-- The digest computed over every preceding byte (R7, R10). -/
def sectionDigest (d : List Byte) : Digest := digestOf (d.take (d.length - 4))

/-! ### The two completions -/

/-- The end of a read: CFG_SEL driven high (R2). -/
def Loader.endRead (l : Loader) : Loader :=
  { l with data := [], cfgSelected := false, cfgCommand := [], port := l.port ++ [.selectHigh] }

/-- The end of a load, successful or not: the read in progress ends, and nothing is read on (R2). -/
def Loader.stopReading (l : Loader) : Loader := { l.endRead with phase := .idle, stagedPlan := Plan.empty }

/-- Whether CFG_CLK is held low: outside Booting, and while RESET is low (R2). -/
def State.cfgClockHeldLow (s : State) : Bool := s.resetLow || s.ctl.station != .booting

/-- A load that fails (R17, R96). -/
def State.failLoad (s : State) (cause : Cause) (position : FailurePosition) : State :=
  let s := s.modLoader fun l => { l.stopReading with failurePosition := position }
  ((s.enterState .failsafe).modCtl fun c => { c with cause := cause }).raise .failsafe

/-- A load that fails at a field out of range (R15). -/
def State.failRange (s : State) (sec : Section) (offset : Nat) : State :=
  (s.recordConfig (.range sec offset)).failLoad .range (.field sec offset)

/-- A load that fails at a section's digest (R7, R10). -/
def State.failDigest (s : State) (sec : Section) : State :=
  (s.recordConfig (.digest sec)).failLoad .digest (.field sec 0)

/-- A load that succeeds (R16, R61, R81, R96). -/
def State.completeLoad (s : State) (settings : Settings) : State :=
  let plan := s.loader.stagedPlan
  let s := s.modLoader fun l => { l.stopReading with plan := plan, settings := settings }
  let s := s.modMgmt fun m => { m with mask := settings.eventMask, checkMode := settings.checkMode }
  let s := s.modAlloc fun a => { a with standing := Record.sized plan, voidCount := 0, pendingVoid := 0 }
  (s.send .flushed).enterListening

/-! ### The phases -/

/-- The read command of a section: 0x03 and the memory byte address of its first granule (R2). -/
def readCommand (start : Nat) : List Byte :=
  [0x03, byte (9 * start / 65536), byte (9 * start / 256), byte (9 * start)]

/-- The read of a section begun: CFG_SEL driven low, the read command sent on CFG_DIN (R2). -/
def Loader.startRead (l : Loader) (phase : LoadPhase) (g : Granules) : Loader :=
  { l with phase := phase, reading := g, cfgSelected := true, cfgCommand := readCommand g.start
           port := l.port ++ [.selectLow, .send (readCommand g.start)] }

/-- The read of a section ended, and that of the next begun (R2). -/
def State.beginRead (s : State) (phase : LoadPhase) (g : Granules) : State :=
  s.modLoader fun l => l.endRead.startRead phase g

/-- The image header read whole (R13). -/
def State.headerRead (s : State) (d : List Byte) : State :=
  let planEntry := directoryEntry d 4
  let localEntry := directoryEntry d (localEntryOffset s.own)
  if word32At d 0 ≠ imageIdentity then s.failRange .header 0
  else if (decide (3 ≤ planEntry.length) && planEntry.placed) = false then s.failRange .header 4
  else if localEntry.length = 0 then (s.recordConfig (.noLocal s.own)).failLoad .noLocal (.station s.own)
  else if (decide (24 ≤ localEntry.length) && localEntry.placed) = false then
    s.failRange .header (localEntryOffset s.own)
  else (s.modLoader fun l => { l with localEntry := localEntry }).beginRead .plan planEntry

/-- The plan section read whole (R7, R14). -/
def State.planRead (s : State) (d : List Byte) : State :=
  if sectionDigest d ≠ storedDigest d then s.failDigest .plan
  else
    let s := s.modLoader fun l => { l with planDigest := storedDigest d }
    match firstFailure (planChecks d) with
    | some o => s.failRange .plan o
    | none => (s.modLoader fun l => { l with stagedPlan := planOf d }).beginRead .localPhase s.loader.localEntry

/-- The own local section read whole (R10, R14). -/
def State.localRead (s : State) (d : List Byte) : State :=
  if sectionDigest d ≠ storedDigest d then s.failDigest .localSection
  else match firstFailure (localChecks d s.own s.loader.stagedPlan.targets) with
    | some o => s.failRange .localSection o
    | none => s.completeLoad (settingsOf d)

/-- The section that a phase reads, read whole. -/
def State.sectionRead (s : State) (d : List Byte) : State :=
  match s.loader.phase with
  | .header => s.headerRead d
  | .plan => s.planRead d
  | .localPhase => s.localRead d
  | .idle => s

/-! ### Granules -/

/-- The index of the granule the loader reads next (R1, R2). -/
def Loader.granule (l : Loader) : Nat := l.reading.start + l.data.length / 8

/-- A granule's corrected data taken; the last granule of a section starts the section's checks (R13, R14). -/
def State.takeGranule (s : State) (data : BitVec 64) : State :=
  let d := s.loader.data ++ granuleBytes data
  let s := s.modLoader fun l => { l with data := d }
  if d.length = 8 * s.loader.reading.length then s.sectionRead d else s

/-- A correction counted, flagged and recorded (R3). -/
def State.countCorrection (s : State) : State :=
  let s' := s.modLoader fun l => { l with corrections := satInc 15 l.corrections }
  (s'.raise .cfgFix).recordConfig (.corrected s.loader.granule)

/-- A granule checked and taken, or the load ended (R3). -/
def State.readGranule (s : State) (outcome : GranuleOutcome) : State :=
  match outcome with
  | .clean data => s.takeGranule data
  | .corrected data => s.countCorrection.takeGranule data
  | .double => (s.recordConfig (.ecc s.loader.granule)).failLoad .ecc (.granule s.loader.granule)

/-- GRANULE_READ (R3, R12): nothing is read outside a load or while RESET is low. -/
def execGranuleRead (granule : BitVec 72) (s : State) : Host.Outcome State Fault Refusal :=
  .next <| if s.loader.phase = .idle ∨ s.resetLow then s else s.readGranule (checkGranule granule)

end Sys2Proof.Machine
end

