-- ==== Sys2Proof/Machine/Census.lean ====
section
/-! DEFINITION. The Census Unit (chapters 3 and 5): the own notice, what a closed slot does to the Peer Table, veto
reasons, the member and guest sets, the tally with its adoption, and the plan check. -/

namespace Sys2Proof.Machine

open Sys2Proof

/-! ### The own notice -/

/-- The pressure view (R131). -/
def State.pressureView (s : State) : TargetSet :=
  targetSetOf fun t => inUse s t && s.monitors[t].state == .pressed

/-- The demand value of a queue: queued cells plus previous arrivals, saturating at 65,535 (R58). -/
def State.demand (s : State) (q : Fin 12) : Nat := min (queuedCells s.store.queues[q] + s.store.previous[q]) 65535

/-- The Demand Notice composed from the state as it stands, its epoch sequence stamped (R26, R57, R58). -/
def State.composeNotice (s : State) (status : NoticeStatus) : Notice :=
  { sender := s.own, status := status, seq := s.sbi.seq, voidCount := BitVec.ofNat 4 s.alloc.voidCount,
    pressure := s.pressureView, planDigest := s.loader.planDigest, standingDigest := s.alloc.standing.digest,
    percents := s.admin.percents.map byte, evicted := s.admin.evicted,
    demands := Vector.ofFn fun q => BitVec.ofNat 16 (s.demand q) }

/-! ### The Peer Table -/

/-- The entry of a station number (3.1). -/
def Census.entry (c : Census) (k : StationNo) : PeerEntry := c.peers[k.toNat]'k.isLt

/-- The entry of a station number replaced. -/
def Census.setEntry (c : Census) (k : StationNo) (e : PeerEntry) : Census :=
  { c with peers := c.peers.set k.toNat e k.isLt }

/-- The last heard status of an entry (3.1). -/
def PeerEntry.status (e : PeerEntry) : Option NoticeStatus := e.contents.map (·.status)

/-- The statuses of a station that carries traffic, Active and Leaving (R49, R54, R83). -/
def NoticeStatus.serving : NoticeStatus → Bool
  | .active | .leaving => true
  | .joining | .resync | .fenced => false

/-- The first valid Active notice heard in Listening gives the SBI its epoch sequence (R43, R47 step 1). -/
def State.adoptFirstActive (s : State) (n : Notice) : State :=
  if s.ctl.station = .listening ∧ n.status = .active ∧ s.census.activeHeard = false then
    (s.modSbi fun b => { b with seq := n.seq }).modCensus fun c => { c with activeHeard := true }
  else s

/-- A slot closed with a valid notice (R47). -/
def State.hearNotice (s : State) (k : StationNo) (n : Notice) : State :=
  let s := s.adoptFirstActive n
  s.modCensus fun c =>
    { c.setEntry k { state := .heard, contents := some n, missCount := 0, lastHeard := s.sbi.seq } with
      heard := c.heard ||| stationBit k }

/-- An entry after one more silent slot that counts (R49). -/
def PeerEntry.miss (e : PeerEntry) (limit : Nat) : PeerEntry :=
  if e.missCount + 1 = limit then { e with state := .absent, missCount := 0 }
  else { e with state := .held, missCount := e.missCount + 1 }

/-- An entry after a silent slot (R49). -/
def PeerEntry.silent (e : PeerEntry) (limit : Nat) : PeerEntry :=
  match e.state with
  | .absent => e
  | .held => e.miss limit
  | .heard => if e.status.any NoticeStatus.serving then e.miss limit else { e with state := .absent }

/-- A slot closed Silent (R49). -/
def State.silentSlot (s : State) (k : StationNo) : State :=
  s.modCensus fun c => c.setEntry k ((c.entry k).silent s.plan.missLimit)

/-- A veto reason recorded, when the station is Active (R53). -/
def State.addReason (s : State) (f : VetoReasons → VetoReasons) : State :=
  if s.ctl.station = .active then s.modCensus fun c => { c with reasons := f c.reasons } else s

/-- A slot closed bad (R50): its Bus capture event is of kind CHECK or LENGTH. -/
def State.badSlot (s : State) (e : BusEvent) : State :=
  ((s.modCounters fun c => { c with badFrames := countUp 1 c.badFrames }).recordBus e).addReason fun r =>
    { r with badSlot := true }

/-- A bad directive frame (R52). -/
def State.badDirective (s : State) (e : BusEvent) : State :=
  ((s.modCounters fun c => { c with badFrames := countUp 1 c.badFrames }).recordBus e).addReason fun r =>
    { r with badDirective := true }

/-- What the Census Unit makes of a received slot (R46, R47, R49, R50). -/
def State.receiveSlot (s : State) (k : StationNo) : Reception 344 → State
  | .silent => s.silentSlot k
  | .malformed => s.badSlot (.length (.slot k) s.sbi.seq)
  | .framed x =>
    match validNotice k (noticeBytes x) with
    | some n => s.hearNotice k n
    | none => s.badSlot (.check (.slot k) s.sbi.seq)

/-- What the Census Unit makes of the directive window (R52). -/
def State.receiveWindow (s : State) : Reception 54 → State
  | .silent => s
  | .malformed => s.badDirective (.length .directiveWindow s.sbi.seq)
  | .framed x =>
    match validDirective x with
    | some d => s.modCensus fun c => { c with received := some d }
    | none => s.badDirective (.check .directiveWindow s.sbi.seq)

/-- Whether a veto reason is held (R53). -/
def VetoReasons.any (r : VetoReasons) : Bool := r.badSlot || r.badDirective || r.ownAbandoned

/-- The Census Unit at a mark: heard set, veto reasons and received directive emptied; the Peer Table keeps its
entries (R51). A result and an adoption belong to the epoch that ends (R87, R89). -/
def Census.newEpoch (c : Census) : Census :=
  { c with heard := 0, reasons := VetoReasons.none, received := none, ownSent := false, adopted := none, result := none }

/-! ### Members and guests -/

/-- Whether a last notice has the own plan digest and was in step when heard (R47, R54, R55). -/
def PeerEntry.inStep (e : PeerEntry) (planDigest : Digest) : Bool :=
  match e.contents with
  | none => false
  | some n => n.planDigest == planDigest && n.seq == e.lastHeard

/-- Whether a number is in the member set, against an evicted mask (R54). -/
def State.isMember (s : State) (evicted : StationMask) (k : StationNo) : Bool :=
  let e := s.census.entry k
  ((holds s.census.heard k && e.status.any NoticeStatus.serving) || e.state == .held)
    && e.inStep s.loader.planDigest && !holds evicted k

/-- Whether a number is in the guest set, against an evicted mask (R55). -/
def State.isGuest (s : State) (evicted : StationMask) (k : StationNo) : Bool :=
  let e := s.census.entry k
  holds s.census.heard k && (e.status == some .joining || e.status == some .resync)
    && e.inStep s.loader.planDigest && !holds evicted k

/-- The member set (R54). -/
def State.memberSet (s : State) (evicted : StationMask) : StationMask := maskOf (s.isMember evicted)

/-- The guest set (R55). -/
def State.guestSet (s : State) (evicted : StationMask) : StationMask := maskOf (s.isGuest evicted)

/-- The demand a station's last notice carries for a queue (R54, R55, R56). -/
def State.heardDemand (s : State) (k : StationNo) (q : Fin 12) : Nat :=
  match (s.census.entry k).contents with
  | none => 0
  | some n => n.demands[q].toNat

/-- The pressure set: the targets in use that at least one member reports Pressed (R64). -/
def State.pressureSet (s : State) (members : StationMask) : TargetSet :=
  targetSetOf fun t => inUse s t && allStations.any fun k =>
    holds members k && (s.census.entry k).contents.any fun n => n.pressure.getLsbD t.val

/-! ### The tally -/

/-- The notice of this epoch from a station in the heard set. -/
def State.heardNotice (s : State) (k : StationNo) : Option Notice :=
  if holds s.census.heard k then (s.census.entry k).contents else none

/-- Whether a notice of this epoch makes its station a participant (R83). -/
def State.participates (s : State) (n : Notice) : Bool := n.status.serving && n.planDigest == s.loader.planDigest

/-- The participants, lowest number first, each with its notice of this epoch (R83). -/
def State.participants (s : State) : List (StationNo × Notice) :=
  allStations.filterMap fun k =>
    match s.heardNotice k with
    | some n => if s.participates n then some (k, n) else none
    | none => none

/-- The pair a participant is tallied by (R83). -/
def Notice.pair (n : Notice) : Seq × Digest := (n.seq, n.standingDigest)

/-- The size of the group of a pair (R84). -/
def groupSize (ps : List (StationNo × Notice)) (pair : Seq × Digest) : Nat :=
  (ps.filter fun p => p.2.pair == pair).length

/-- The lowest-numbered participant of the majority group: the first whose group no other exceeds in size (R84). -/
def majority (ps : List (StationNo × Notice)) : Option (StationNo × Notice) :=
  ps.find? fun p => ps.all fun q => decide (groupSize ps q.2.pair ≤ groupSize ps p.2.pair)

/-- The Admin Record a notice carries. -/
def Notice.admin (n : Notice) : Admin := { percents := n.percents.map (·.toNat), evicted := n.evicted }

/-- An adoption from a notice (R43, R87). -/
def State.adopt (s : State) (n : Notice) : State :=
  (s.modSbi fun b => { b with seq := n.seq }).modCensus fun c => { c with adopted := some n.admin }

/-- A tally result left pending for the mark (R89). -/
def State.setResult (s : State) (r : TallyResult) : State := s.modCensus fun c => { c with result := some r }

/-- A Minority verdict, with its flag and Agreement capture (R85, R90). -/
def State.minorityVerdict (s : State) (own majorityNotice : Notice) (ps : List (StationNo × Notice)) : State :=
  let e : MinorityEvent :=
    { seq := own.seq, own := own.standingDigest, majority := majorityNotice.standingDigest,
      groupSize := groupSize ps majorityNotice.pair, participants := ps.length }
  ((s.setResult .minority).raise .minority).modMgmt fun m => { m with agreement := m.agreement.record e }

/-- The verdict of an Active or Leaving station whose own notice of this epoch was sent (R85). -/
def State.verdict (s : State) (ps : List (StationNo × Notice)) : State :=
  if s.census.ownSent = false then s
  else match (s.census.entry s.own).contents, majority ps with
    | some own, some m =>
      if ps.all fun p => p.1 == s.own then s.setResult .lone
      else if own.pair = m.2.pair then s.setResult .agree
      else s.minorityVerdict own m.2 ps
    | _, _ => s.setResult .lone

/-- The outcome of a Joining or Resync station, and its adoption at a Mismatch (R86, R87). -/
def State.outcome (s : State) (ps : List (StationNo × Notice)) : State :=
  match majority ps with
  | none => s.setResult .lone
  | some m =>
    if m.2.pair = (s.sbi.seq, s.alloc.standing.digest) then s.setResult .match
    else (s.adopt m.2).setResult .mismatch

/-- The tally, in the states that run it (R83 to R88, R90). -/
def State.tally (s : State) : State :=
  match s.ctl.station with
  | .active | .leaving => s.verdict s.participants
  | .joining | .resync => s.outcome s.participants
  | .listening =>
    match majority s.participants with
    | none => s
    | some m => s.adopt m.2
  | .booting | .failsafe | .quiet | .fenced | .excluded => s

/-! ### The plan check -/

/-- The stations counted in the plan split: heard this epoch with status Active, lowest first; each with whether it is
on the equal side (R91). -/
def State.planSplit (s : State) : List (StationNo × Bool) :=
  allStations.filterMap fun k =>
    match s.heardNotice k with
    | some n => if n.status = .active then some (k, n.planDigest == s.loader.planDigest) else none
    | none => none

/-- The plan check result: true for pass (R92). -/
def planCheck (split : List (StationNo × Bool)) : Bool :=
  let equal := (split.filter (·.2)).length
  let unequal := (split.filter fun p => !p.2).length
  if equal < unequal then false
  else if unequal < equal then true
  else match split with
    | [] => true
    | p :: _ => p.2

end Sys2Proof.Machine
end

