-- ==== Sys2Proof/Machine/Settle.lean ====
section
/-! DEFINITION. The settle (R62, R63), with the void decision of a vetoed epoch (R80), and the meanings of
SETTLE_START and SETTLE_COMPLETE. -/

namespace Sys2Proof.Machine

open Sys2Proof

/-- A directive applied to an Admin Record, its operand in range (R65). -/
def Admin.apply (a : Admin) (d : DirectiveFrame) : Admin :=
  match d.kind with
  | .setPercent =>
    if h : operandTarget d.operand < 4 then
      { a with percents := a.percents.set (operandTarget d.operand) (operandPercent d.operand) h }
    else a
  | .evict => { a with evicted := a.evicted ||| d.operand }
  | .readmit => { a with evicted := a.evicted &&& ~~~d.operand }

/-- The pending Admin Record after steps 1 and 2 of R63: the adopted one or the one in force, with the received
directive applied unless it is ignored (R65, R87, R120). -/
def State.pendingAdmin (s : State) : Admin :=
  let base := s.census.adopted.getD s.admin
  match s.census.received with
  | none => base
  | some d => if operandInRange s.plan.targets d.kind d.operand then base.apply d else base

/-- The count and capture of an ignored directive (R120). -/
def State.countIgnored (s : State) (received : Option DirectiveFrame) : State :=
  match received with
  | none => s
  | some d =>
    if operandInRange s.plan.targets d.kind d.operand then s
    else
      let e : IgnoredEvent := { frame := d, seq := s.sbi.seq }
      (s.modCounters fun c => { c with ignoredDirectives := countUp 1 c.ignoredDirectives }).modMgmt fun m =>
        { m with directive := m.directive.record e }

/-- The record a clear epoch computes (R63). -/
def State.settledRecord (s : State) : Record :=
  let admin := s.pendingAdmin
  let members := s.memberSet admin.evicted
  computedRecord s.plan members (s.guestSet admin.evicted) (s.pressureSet members) admin s.heardDemand

/-- The state as the settle in flight reads it: the Census Unit as it was handed over (R56, R62). -/
def State.handedOver (s : State) : State := { s with census := s.alloc.handOver.getD s.census }

/-- The settle of a clear epoch completed (R63). -/
def State.completeSettle (s : State) : State :=
  (s.countIgnored s.handedOver.census.received).modAlloc fun a =>
    { a with pending := some s.handedOver.settledRecord, pendingVoid := 0, settle := .complete, handOver := none }

/-- A vetoed epoch: void at the close of its veto window (R62, R75, R76, R80); the awaiting mark is cleared (R117). -/
def State.voidAtVeto (s : State) : State :=
  ((s.modAlloc fun a => a.formVoid s.plan).modCounters fun c => { c with voidEpochs := countUp 1 c.voidEpochs }).modCtl
    fun c => { c with awaiting := false }

/-- The Census Unit's data handed to the settle, which is then in flight (R56, R62). -/
def State.handToSettle (s : State) : State :=
  s.modAlloc fun a => { a with settle := .inFlight, handOver := some s.census }

/-- The veto window closed and the settle begun by its result, the tally first (R24, R33, R56, R62, R83). -/
def State.startSettle (s : State) : State := if s.sbi.vetoed then s.voidAtVeto else s.tally.handToSettle

/-- SETTLE_START (R24, R33, R62): the close of the veto window, in every state whose phase position reaches it. -/
def execSettleStart (s : State) : Host.Outcome State Fault Refusal :=
  .next <|
    if observes s.ctl.station && decide (s.sbi.phase.rank ≤ 18) && s.alloc.settle == .idle then
      ((s.advanceTo (bitTimes 710)).modSbi fun b => { b with phase := .settle, vetoDrive := false }).startSettle
    else s

/-- SETTLE_COMPLETE (R63): the computing settle ends. -/
def execSettleComplete (s : State) : Host.Outcome State Fault Refusal :=
  .next <| if s.alloc.settle = .inFlight then s.completeSettle else s

end Sys2Proof.Machine
end

