-- ==== Sys2Proof/Machine/Marks.lean ====
section
/-! DEFINITION. A mark delivered to the blocks (R23, R37): the work of each block at it, in the order the spec gives
where it gives one, and the meanings of the commands about SYNC. -/

namespace Sys2Proof.Machine

open Sys2Proof

/-! ### The work of the blocks at a mark -/

/-- The void record of a cut epoch, formed at the cutting mark; the void epochs counter rises unless the epoch was
vetoed (R77, R80). -/
def State.voidAtCut (s : State) (vetoed : Bool) : State :=
  let s := s.modAlloc fun a => a.formVoid s.plan
  if vetoed then s else s.modCounters fun c => { c with voidEpochs := countUp 1 c.voidEpochs }

/-- Promotion, with the FALLBACK flag at a promotion into origin Fallback (R73, R76). -/
def State.promote (s : State) : State :=
  (s.modAlloc Alloc.promote).raiseIf
    (s.alloc.promote.standing.origin == .fallback && s.alloc.standing.origin != .fallback) .fallback

/-- The Directive Queue without its completed head (R117). -/
def State.completeDirective (s : State) (cut : Bool) : State :=
  if s.ctl.awaiting then
    if cut then s.modCtl fun c => { c with awaiting := false }
    else (s.modCtl fun c => { c with queue := c.queue.tail, awaiting := false }).raise .dirDone
  else s

/-- The records at the age limit reported expired (R145). -/
def State.expireAged (s : State) : State := s.reportExpired (s.store.aged s.settings.ageLimit) .age

/-- The drain ended when something was removed and the store is empty (R106, ending 2). -/
def State.endDrainIf (s : State) (removed : Bool) : State := if removed then s.endDrainIfEmpty else s

/-- The ageing of a mark, and the drain ended when it takes the last descriptor (R106, R145). -/
def State.age (s : State) : State :=
  ((s.expireAged).modStore fun st => st.ageing s.settings.ageLimit).endDrainIf
    (!(s.store.aged s.settings.ageLimit).isEmpty)

/-- The listen-epoch count raised (R97). -/
def State.countListen (s : State) : State := s.modCtl fun c => { c with listenCount := satInc 15 c.listenCount }

/-- The listen-epoch count, and the plan check when it is complete (R97). -/
def State.listenEpoch (s : State) (pass : Bool) : State :=
  if satInc 15 s.ctl.listenCount = s.plan.listenEpochs then
    if pass then s.countListen.enterJoining else s.countListen.enterExcluded .plan
  else s.countListen

/-- The drain epochs passed raised (R105). -/
def State.countDrainEpoch (s : State) : State := s.modCtl fun c => { c with drainEpochs := satInc 255 c.drainEpochs }

/-- The drain epochs passed, and the drain ended at the drain epoch limit (R105, R106). -/
def State.drainEpoch (s : State) : State :=
  if satInc 255 s.ctl.drainEpochs = s.settings.drainLimit then s.countDrainEpoch.endDrain else s.countDrainEpoch

/-- A confirmed Match: the streak rises, and a streak of 2 makes the station Active (R98). -/
def State.matched (s : State) : State :=
  if satInc 2 s.ctl.streak = 2 then (s.modCtl fun c => { c with streak := satInc 2 c.streak }).enterActive
  else s.modCtl fun c => { c with streak := satInc 2 c.streak }

/-- A confirmed tally result, by the state at the confirming mark (R98, R99). -/
def State.applyResult (s : State) : State :=
  match s.census.result, s.ctl.station with
  | some .minority, .active => s.enterResync
  | some .match, .joining | some .match, .resync => s.matched
  | some .mismatch, .joining | some .mismatch, .resync => s.modCtl fun c => { c with streak := 0 }
  | some .lone, .joining | some .lone, .resync => s.enterActive
  | _, _ => s

/-- Whether the own number is set in the evicted mask in force (R102). -/
def State.ownEvicted (s : State) : Bool := holds s.admin.evicted s.own

/-- The Station Controller at a mark that ends an epoch: the eviction test of a clear epoch first, then the confirmed
result (R99, R102, R103), the listen epochs (R97), the drain epochs (R105). A void epoch confirms no result (R98). -/
def State.controlMark (s : State) (cut vetoed pass : Bool) : State :=
  match s.ctl.station with
  | .listening => s.listenEpoch pass
  | .joining | .active | .resync =>
    if !cut && !vetoed && s.ownEvicted then s.enterFenced else if cut || vetoed then s else s.applyResult
  | .leaving => if !cut && !vetoed && s.ownEvicted then s.enterFenced else s.drainEpoch
  | .fenced => if !cut && !vetoed && !s.ownEvicted then s.enterJoining else s
  | .booting | .failsafe | .quiet | .excluded => s

/-- A monitor at a mark (R129). -/
def Monitor.mark (m : Monitor) : Monitor :=
  if satInc 4 m.marks = 4 then { m with marks := 4, state := .stale, highCount := 0, lowCount := 0 }
  else { m with marks := satInc 4 m.marks }

/-- Whether a mark takes a monitor to Stale (R129). -/
def Monitor.goesStale (m : Monitor) : Bool := m.state != .stale && m.mark.state == .stale

/-- The monitors at a mark; STALE is set at each entry to Stale (R129, R130). -/
def State.markMonitors (s : State) : State :=
  (s.modMonitors fun t m => if inUse s t then m.mark else m).raiseIf
    (allTargets.any fun t => inUse s t && s.monitors[t].goesStale) .stale

/-- The grant a counter is reloaded from (R152). -/
def State.reloadGrant (s : State) (q : Fin 12) : Nat :=
  let g := stationGrant s.plan s.alloc.standing s.own (queueTarget q) (queueClass q)
  match s.ctl.station with
  | .active | .resync | .leaving => g
  | .joining => if holds s.alloc.standing.guests s.own then g else 0
  | .booting | .failsafe | .listening | .quiet | .fenced | .excluded => 0

/-- The reload of a counter from its leftover (R149). -/
def reloaded (percent grant bank : Nat) (leftover : Int) : Int :=
  min 65535
    (if percent = 0 then min leftover 0
     else if 0 ≤ leftover then grant + min leftover bank
     else grant + leftover)

/-- The reload of the twelve counters, and the halt lifted (R149, R157), in the states that do not release too
(notes/assumptions/24.md). -/
def State.reload (s : State) : State :=
  s.modMeter fun m =>
    { m with halt := false
             credits := Vector.ofFn fun q =>
               reloaded s.admin.percents[queueTarget q] (s.reloadGrant q) s.settings.banks[queueClass q] m.credits[q] }

/-- Whether the epoch is decided void by its veto: the close of its veto window formed the void record (R80). -/
def State.decidedVoid (s : State) : Bool := s.sbi.vetoed && s.alloc.settle == .complete

/-- The end of an epoch at the Allocation Engine and the Directive Queue: the void record of a cut epoch, promotion
(R73, R77), then the awaiting directive (R117). -/
def State.endEpoch (s : State) (cut : Bool) : State :=
  (if cut then s.voidAtCut s.decidedVoid else s).promote.completeDirective cut

/-- The Station Controller's change and the ageing of one mark, in either order (R106, R146). -/
def State.controlAndAge (s : State) (ageingFirst : Bool) (control : State → State) : State :=
  if ageingFirst then control s.age else (control s).age

/-- The mark's other work: the arrival shift, the monitors, the emptied heard set, and the reload last (R51, R129, R140,
R149). -/
def State.beginEpoch (s : State) : State :=
  ((s.modStore Store.shift).markMonitors.modCensus Census.newEpoch).reload

/-- A mark that ends an epoch, delivered to the blocks: promotion first (R73), then the Station Controller's change, made
for the epoch as it was (R92, R99), and the reload last (R149). `cut`: the mark cuts the epoch (R42). -/
def State.epochMark (s : State) (cut ageingFirst : Bool) : State :=
  ((s.endEpoch cut).controlAndAge ageingFirst fun t =>
    t.controlMark cut s.decidedVoid (planCheck s.planSplit)).beginEpoch

/-- A mark that ends no epoch, delivered to the blocks (R23, R73, R97). -/
def State.firstMark (s : State) : State := s.age.beginEpoch

/-- A mark delivered to the blocks. -/
def State.deliverMark (s : State) (ends cut ageingFirst : Bool) : State :=
  if ends then s.epochMark cut ageingFirst else s.firstMark

/-! ### Local marks -/

/-- A local mark: the timer restarts, the sequence stays, the epoch is cut (R37, R42). -/
def State.localMark (s : State) (ageingFirst : Bool) : State :=
  ((s.modCounters fun c => { c with cutEpochs := countUp 1 c.cutEpochs }).deliverMark true true ageingFirst).modSbi
    Sbi.newEpoch

/-- The epoch timer at E_len in a state that drives SYNC: a local mark while the stall condition holds, otherwise
SYNC driven if it is recessive (R22, R37). -/
def State.timerExpired (s : State) (sync : Level) (ageingFirst : Bool) : State :=
  if s.sbi.faults.syncLow then s.localMark ageingFirst
  else if sync = .recessive then s.modSbi fun b => { b with syncDrive := .attempting }
  else s

/-- EPOCH_TIMER_EXPIRY (R22): in Quiet and Excluded the timer holds at E_len; in Booting and Failsafe it is stopped. -/
def execEpochTimerExpiry (sync : Level) (ageingFirst : Bool) (s : State) : Host.Outcome State Fault Refusal :=
  .next <|
    if drivesSync s.ctl.station then (s.advanceTo s.epochBitTimes).timerExpired sync ageingFirst
    else s.advanceTo s.epochBitTimes

/-- SYNC_DRIVE_END (R22): SYNC released. -/
def execSyncDriveEnd (s : State) : Host.Outcome State Fault Refusal :=
  .next <| s.modSbi fun b => { b with syncDrive := .released }

/-- The SYNC-high fault: SYNC released, the fault and its event, the phase position Stalled (R37). -/
def State.syncHigh (s : State) : State :=
  ((s.modFaults fun f => { f with syncHigh := true }).recordBusIf (!s.sbi.faults.syncHigh) (.syncHigh s.sbi.seq)).modSbi
    fun b => { b.abandon with phase := .stalled, syncDrive := .released }

/-- SYNC_HIGH_FAULT (R37): SYNC found recessive while a drive for a mark is being attempted. The timer counts from this
sampling, and not from the expiry 0.1 µs before it (notes/assumptions/28.md). -/
def execSyncHighFault (ageingFirst : Bool) (s : State) : Host.Outcome State Fault Refusal :=
  .next <| if s.sbi.syncDrive = .attempting then s.syncHigh.localMark ageingFirst else s

/-! ### True marks -/

/-- Whether a true mark cuts the epoch it ends: it comes less than 96.0 µs after the previous mark, or in Stalled or
Suspended; in Unaligned it ends none (R42). -/
def Sbi.cutBy (b : Sbi) : Bool :=
  match b.phase with
  | .unaligned => false
  | .stalled | .suspended => true
  | .markGuard | .slot _ | .directiveWindow | .vetoWindow | .settle | .idle => decide (b.timer < settleLimit)

/-- The SBI at a true mark (R23); it ends the SYNC-high fault, and a SYNC-low fault not yet seen to end (R37, R38). -/
def State.sbiTrueMark (s : State) : State :=
  (s.modFaults fun f => { f with syncLow := false, syncHigh := false }).modSbi fun b =>
    { b.newEpoch with
      seq := b.seq + 1
      phase := .markGuard
      syncDrive := if b.syncDrive = .attempting then .marking else b.syncDrive }

/-- Whether a true mark ends an epoch (R23). -/
def Sbi.inEpoch (b : Sbi) : Bool := b.phase != .unaligned

/-- A settle in flight at a mark that does not cut has completed by then (R63, R73). -/
def State.settleDue (s : State) : State :=
  if s.sbi.inEpoch && !s.sbi.cutBy && s.alloc.settle == .inFlight then s.completeSettle else s

/-- The counters of a true mark (R23, R42). -/
def State.countMark (s : State) (cut : Bool) : State :=
  s.modCounters fun c => { c with trueMarks := countUp 1 c.trueMarks, cutEpochs := countUp cut.toNat c.cutEpochs }

/-- A true mark taken (R23). -/
def State.takeTrueMark (s : State) (ageingFirst : Bool) : State :=
  ((s.settleDue.countMark s.sbi.cutBy).deliverMark s.sbi.inEpoch s.sbi.cutBy ageingFirst).sbiTrueMark

/-- TRUE_MARK (R23). -/
def execTrueMark (time : Nat) (ageingFirst : Bool) (s : State) : Host.Outcome State Fault Refusal :=
  .next <| if observes s.ctl.station then (s.advanceTo time).takeTrueMark ageingFirst else s

/-! ### Stalls -/

/-- The stall condition begun (R36). -/
def State.beginStall (s : State) : State :=
  ((s.modFaults fun f => { f with syncLow := true }).recordBus (.syncLow s.sbi.seq)).modSbi fun b =>
    { b.abandon with phase := .stalled, vetoDrive := false }

/-- STALL (R36): SYNC dominant for more than 10.0 µs since the mark, or since the entry to Listening from Booting. A REJOIN
while SYNC is still dominant after a mark leaves the mark as the start (notes/assumptions/23.md). -/
def execStall (s : State) : Host.Outcome State Fault Refusal :=
  .next <|
    if observes s.ctl.station && !s.sbi.faults.syncLow then (s.advanceTo (bitTimes 100 + 1)).beginStall else s

/-- The stall condition ended (R38). -/
def State.endStall (s : State) : State :=
  (s.modFaults fun f => { f with syncLow := false }).modSbi fun b => { b with phase := .suspended }

/-- STALL_END (R38). -/
def execStallEnd (time : Nat) (s : State) : Host.Outcome State Fault Refusal :=
  .next <| if s.sbi.faults.syncLow then (s.advanceTo time).endStall else s

end Sys2Proof.Machine
end

