-- ==== Sys2Proof/Machine/Reset.lean ====
section
/-! DEFINITION. The three resets (R12, R94, R134, R164), and the meanings of POWER_ON_RESET, PIN_RESET and
PIN_RESET_RELEASE. RESTART stands with the other management commands. -/

namespace Sys2Proof.Machine

open Sys2Proof

/-- The station at the start of a load after a reset: every piece of state at its reset value, the straps sampled, the
last reset cause as given (R12, R94). What waits in the queue has not been received yet, and stays (R134). -/
def State.startLoad (s : State) (cause : ResetCause) (straps : StationNo) : State :=
  { State.reset with
    pending := s.pending
    loader := { Loader.reset with strapped := straps }
    ctl := { Control.reset with lastReset := cause } }

/-- POWER_ON_RESET (R12). -/
def execPowerOnReset (straps : StationNo) (s : State) : Host.Outcome State Fault Refusal :=
  .next <| s.startLoad .power straps

/-- The loader while RESET is low: CFG_SEL driven high and nothing read (R2). -/
def Loader.whileReset (l : Loader) : Loader := { l with cfgSelected := false, cfgCommand := [], port := [.selectHigh] }

/-- PIN_RESET (R12): RESET falls. The state is that of a new load; nothing is read from the configuration memory until
RESET rises (R2), when the straps are sampled. -/
def execPinReset (s : State) : Host.Outcome State Fault Refusal :=
  .next <| { (s.startLoad .pin s.own).modLoader Loader.whileReset with resetLow := true }

/-- PIN_RESET_RELEASE (R12): RESET rises. -/
def execPinResetRelease (straps : StationNo) (s : State) : Host.Outcome State Fault Refusal :=
  .next <| if s.resetLow then s.startLoad .pin straps else s

end Sys2Proof.Machine
end

