-- ==== Sys2Proof/Machine/Views.lean ====
section
/-! DEFINITION. The seven view pages (R165, R175), the response buffer as a read transaction returns it (R164), and the
addresses the port acknowledges (R161). -/

namespace Sys2Proof.Machine

open Sys2Proof

/-- Bytes cut or filled with zeros to a length. -/
def padTo (n : Nat) (b : List Byte) : List Byte := (List.range n).map fun i => b.getD i 0

/-- An event mask value in its two bytes (R175). -/
def eventBytes (m : BitVec 14) : List Byte := bytes16 (m.setWidth 16)

/-- A target set in one byte (12_formats.md, "Target sets"). -/
def targetSetByte (s : TargetSet) : Byte := s.setWidth 8

/-! ### Page 0 -/

/-- The failure position (R175). The value of kind none reads 0 (notes/assumptions/9.md). -/
def FailurePosition.bytes : FailurePosition → List Byte
  | .none => [0, 0, 0]
  | .field sec o => sec.code :: nat16 o
  | .granule g => 4 :: nat16 g
  | .station k => 5 :: nat16 k.toNat

/-- A directive record (R175). -/
def Directive.bytes (d : Directive) : List Byte :=
  [d.frame.priority.setWidth 8, d.frame.seq, d.frame.kind.code] ++ bytes16 d.frame.operand ++ [byte d.sendCount]

/-- Page 0, the station (R18, R94, R124, R165); bits 14 and 15 of the event flags read 0 (notes/assumptions/26.md). -/
def State.page0 (s : State) : List Byte :=
  [s.ctl.station.code, s.ctl.cause.code] ++ s.loader.failurePosition.bytes
    ++ [s.ctl.lastReset.code, s.sbi.seq, byte s.alloc.voidCount, byte s.ctl.streak, byte s.ctl.listenCount,
        s.own.setWidth 8]
    ++ bytes32 s.loader.planDigest ++ nat16 s.ctl.drainCount ++ nat16 s.ctl.drainProgress
    ++ [byte s.ctl.drainEpochs, s.mgmt.checkMode.code] ++ eventBytes s.mgmt.flags ++ eventBytes s.mgmt.mask
    ++ [s.ctl.nextSeq, byte s.ctl.queue.length, boolByte s.ctl.awaiting]
    ++ padTo 24 (s.ctl.queue.flatMap Directive.bytes)

/-! ### Page 1 -/

/-- A Peer Table entry (R59, R175). The contents of an entry that holds none read 0 (notes/assumptions/9.md). -/
def PeerEntry.bytes (e : PeerEntry) : List Byte :=
  [e.state.code, match e.status with | none => 0 | some st => st.code.setWidth 8, byte e.missCount, e.lastHeard]
    ++ padTo 41 (match e.contents with | none => [] | some n => n.bytes)

/-- Page 1, the peers (R59). -/
def State.page1 (s : State) : List Byte := bytes16 s.census.heard ++ s.census.peers.toList.flatMap PeerEntry.bytes

/-! ### Page 2 -/

/-- The twelve own grants of the standing record (R60, R79). -/
def State.ownGrants (s : State) : List Nat :=
  (List.finRange 12).map fun q => stationGrant s.plan s.alloc.standing s.own (queueTarget q) (queueClass q)

/-- Page 2, the standing allocation (R79). -/
def State.page2 (s : State) : List Byte :=
  let r := s.alloc.standing
  [r.origin.code, s.alloc.settle.code, byte s.alloc.voidCount] ++ bytes32 r.digest ++ bytes16 r.members
    ++ bytes16 r.guests ++ [targetSetByte r.pressure] ++ r.admin.bytes ++ r.capacities.toList.flatMap nat16
    ++ s.ownGrants.flatMap nat16 ++ nat16 r.grants.length ++ r.grants.flatMap nat16

/-! ### Page 3 -/

/-- The head fields of a queue, 0 for an empty one (R147, R175). -/
def headBytes : List Descriptor → List Byte
  | [] => [0, 0, 0, 0]
  | d :: _ => bytes16 d.tag ++ [byte d.cells, byte d.age]

/-- A queue record (R147, R175). -/
def State.queueBytes (s : State) (q : Fin 12) : List Byte :=
  let queue := s.store.queues[q]
  nat16 s.settings.queueLimits[q] ++ nat16 queue.length ++ nat16 (queuedCells queue) ++ nat16 s.store.arrivals[q]
    ++ nat16 s.store.previous[q] ++ headBytes queue ++ bytes32 (BitVec.ofInt 32 s.meter.credits[q])

/-- A ring slot byte: target in bits 7 and 6, class in bits 5 and 4, skip in bit 1, stop in bit 0 (R175); bits 3 and 2
read 0 (notes/assumptions/26.md). -/
def RingSlot.byte (r : RingSlot) : Byte :=
  (BitVec.ofNat 2 r.target.val ++ BitVec.ofNat 2 r.cls.index.val) ++ (0 : BitVec 2) ++ BitVec.ofBool r.skip
    ++ BitVec.ofBool r.stop

/-- Page 3, credits and queues (R147, R160). -/
def State.page3 (s : State) : List Byte :=
  (List.finRange 12).flatMap s.queueBytes ++ nat16 s.store.heldCount
    ++ nat16 (Config.storeCapacity - s.store.heldCount) ++ s.settings.banks.toList.flatMap nat16
    ++ [byte s.settings.ring.length, byte s.meter.position, boolByte s.meter.halt, boolByte s.meter.running]
    ++ nat16 s.settings.stepInterval ++ padTo 32 (s.settings.ring.map RingSlot.byte)

/-! ### Page 4 -/

/-- A place (R175): a census slot as its number, the directive window as 16. -/
def Place.byte : Place → Byte
  | .slot k => k.setWidth 8
  | .directiveWindow => 16

/-- The kind and fields of a Bus capture event (R169, 12.1). -/
def BusEvent.bytes : BusEvent → Byte × List Byte
  | .readback place bitTime seq => (1, [place.byte] ++ nat16 bitTime ++ [seq])
  | .check place seq => (2, [place.byte, 0, 0, seq])
  | .length place seq => (3, [place.byte, 0, 0, seq])
  | .syncLow seq => (4, [seq])
  | .syncHigh seq => (5, [seq])
  | .vetoLow seq => (6, [seq])
  | .sdatLow slot seq => (7, [slot.setWidth 8, seq])

/-- The kind and fields of an Agreement capture event. -/
def MinorityEvent.bytes (e : MinorityEvent) : Byte × List Byte :=
  (1, [e.seq] ++ bytes32 e.own ++ bytes32 e.majority ++ [byte e.groupSize, byte e.participants])

/-- The kind and fields of a Directive capture event. -/
def IgnoredEvent.bytes (e : IgnoredEvent) : Byte × List Byte :=
  (1, [e.frame.sender.setWidth 8, e.frame.seq, e.frame.kind.code] ++ bytes16 e.frame.operand ++ [e.seq])

/-- The kind and fields of a Config capture event. -/
def ConfigEvent.bytes : ConfigEvent → Byte × List Byte
  | .corrected g => (1, nat16 g)
  | .ecc g => (2, nat16 g)
  | .digest sec => (3, [sec.code])
  | .range sec o => (4, sec.code :: nat16 o)
  | .noLocal k => (5, [k.setWidth 8])

/-- A capture record in its 14 bytes (R175), the valid byte as in notes/assumptions/27.md. -/
def Capture.bytes {α : Type} (c : Capture α) (fields : α → Byte × List Byte) : List Byte :=
  match c.first with
  | none => padTo 14 []
  | some e => [boolByte true, (fields e).1, byte c.count] ++ padTo 11 (fields e).2

/-- Page 4, the captures and the config correction count (R168, R169). -/
def State.page4 (s : State) : List Byte :=
  s.mgmt.bus.bytes BusEvent.bytes ++ s.mgmt.agreement.bytes MinorityEvent.bytes
    ++ s.mgmt.directive.bytes IgnoredEvent.bytes ++ s.mgmt.config.bytes ConfigEvent.bytes ++ [byte s.loader.corrections]

/-! ### Pages 5 and 6 -/

/-- The counters in the order of R170. -/
def Counters.list (c : Counters) : List Nat :=
  [c.offersTaken, c.offersRefused, c.releases, c.recalls, c.expiries, c.trueMarks, c.voidEpochs, c.cutEpochs,
   c.badFrames, c.ignoredDirectives, c.ignoredReports]

/-- Page 5, the counters (R170). -/
def State.page5 (s : State) : List Byte := s.mgmt.counters.list.flatMap nat32

/-- One monitor (R132, R175). -/
def State.monitorBytes (s : State) (t : Fin 4) : List Byte :=
  let m := s.monitors[t]
  let th := s.settings.monitors[t]
  [boolByte (inUse s t), m.state.code, byte m.highCount, byte m.lowCount, byte m.marks] ++ nat16 m.lastReading
    ++ nat16 th.high ++ nat16 th.low ++ [byte th.debounce]

/-- Page 6, the monitors (R132). -/
def State.page6 (s : State) : List Byte := allTargets.flatMap s.monitorBytes

/-- The page of a number; none above 6 (R163, R165). -/
def State.page (s : State) (n : Nat) : Option (List Byte) :=
  match n with
  | 0 => some s.page0
  | 1 => some s.page1
  | 2 => some s.page2
  | 3 => some s.page3
  | 4 => some s.page4
  | 5 => some s.page5
  | 6 => some s.page6
  | _ => none

/-! ### Read transactions -/

/-- Status and data of what the response buffer holds; the status NONE, 255, when it is empty (R164, 12.1). -/
def responseBody : Option Response → List Byte
  | none => [255]
  | some r => r.status.code :: r.data

/-- The response as a read returns it: status, data, check byte (R164). -/
def responseBytes (r : Option Response) : List Byte := responseBody r ++ [managementCheck (responseBody r)]

/-- What a read transaction of `n` bytes returns: the response, its check byte, then released bits (R164). -/
def State.readTransaction (s : State) (n : Nat) : List Byte :=
  (List.range n).map fun i => (responseBytes s.mgmt.response).getD i 0xFF

/-- What a read transaction of `n` bytes returns when a reset is taken after `k` of them: released bits for the bytes that
remain (R161). -/
def State.readTransactionReset (s : State) (n k : Nat) : List Byte :=
  (s.readTransaction n).take k ++ List.replicate (n - k) 0xFF

/-- Whether the port acknowledges a 7-bit address (R161). -/
def State.acknowledges (s : State) (address : BitVec 7) : Bool :=
  !s.resetLow && address == BitVec.ofNat 7 (0x40 + s.own.toNat)

end Sys2Proof.Machine
end

