-- ==== Sys2Proof/Machine/Management.lean ====
section
/-! DEFINITION. The management port (chapter 11): what becomes of a write transaction, the nine commands, and their
meanings with that of UNKNOWN_COMMAND. -/

namespace Sys2Proof.Machine

open Sys2Proof

/-! ### Frames -/

/-- The response buffer takes a response (R164). -/
def State.respond (s : State) (status : Status) (data : List Byte) : State :=
  s.modMgmt fun m => { m with response := some { status := status, data := data } }

/-- Whether a write transaction is addressed to the station and acknowledged (R161). -/
def State.addressed (s : State) (bytes : List Byte) : Bool :=
  !s.resetLow && bytes.head? == some (writeAddress s.own)

/-- The judgement of a frame by the mode and the state in force (R162). -/
def State.judgeFrame (s : State) (bytes : List Byte) (offByte : Bool) : Judgement :=
  judge s.mgmt.checkMode (s.ctl.station == .booting) bytes offByte

/-- A write transaction at its end, its bytes as they came: not acknowledged, ignored, refused, or taken and run (R161, R162). -/
def State.receiveFrame (s : State) (bytes : List Byte) (offByte : Bool) (run : Command → List Byte → State → State) :
    State :=
  if s.addressed bytes then
    match s.judgeFrame bytes offByte with
    | .ignored => s
    | .refused status => s.respond status []
    | .taken c parameters => run c parameters s
  else s

/-! ### The nine commands -/

/-- READ_VIEW: page, offset, count (R163, R165). -/
def State.readView (s : State) (p : List Byte) : State :=
  let offset := nat16At p 1
  let count := nat8At p 3
  match s.page (nat8At p 0) with
  | none => s.respond .badOperand []
  | some page =>
    if count = 0 ∨ 32 < count ∨ page.length < offset + count then s.respond .badOperand []
    else s.respond .ok ((page.drop offset).take count)

/-- An event mask value: bits 14 and 15 are not used (R175). -/
def eventValue (p : List Byte) : BitVec 14 := (word16At p 0).setWidth 14

/-- CLEAR_EVENTS (R166). -/
def State.clearEvents (s : State) (p : List Byte) : State :=
  (s.modMgmt fun m => { m with flags := clearedFlags m.flags (eventValue p) s.conditions }).respond .ok []

/-- SET_EVENT_MASK (R167). In Failsafe it replaces the mask too, where R11 has the mask stay all-masked
(notes/assumptions/25.md). -/
def State.setEventMask (s : State) (p : List Byte) : State :=
  (s.modMgmt fun m => { m with mask := eventValue p }).respond .ok []

/-- A capture record cleared when its bit names it (R168). -/
def Capture.clearIf {α : Type} (c : Capture α) (named : Bool) : Capture α := if named then Capture.cleared else c

/-- CLEAR_CAPTURES: bit 0 Bus, bit 1 Agreement, bit 2 Directive, bit 3 Config (R168, R175). -/
def State.clearCaptures (s : State) (p : List Byte) : State :=
  let which := byteAt p 0
  (s.modMgmt fun m =>
    { m with bus := m.bus.clearIf (which.getLsbD 0), agreement := m.agreement.clearIf (which.getLsbD 1)
             directive := m.directive.clearIf (which.getLsbD 2), config := m.config.clearIf (which.getLsbD 3) }
    ).respond .ok []

/-- CLEAR_COUNTERS (R170). -/
def State.clearCounters (s : State) : State := (s.modCounters fun _ => Counters.zero).respond .ok []

/-- The frame that a POST_DIRECTIVE posts, unless its operand is refused (R112, R113, R114). -/
def State.postedFrame (s : State) (p : List Byte) : Option DirectiveFrame :=
  match DirectiveKind.ofByte (byteAt p 1) with
  | none => none
  | some kind =>
    if nat8At p 0 ≤ 3 ∧ operandInRange s.plan.targets kind (word16At p 2) then
      some { priority := (byteAt p 0).setWidth 2, sender := s.own, seq := s.ctl.nextSeq, kind := kind
             operand := word16At p 2 }
    else none

/-- POST_DIRECTIVE: priority, kind, operand (R114). -/
def State.postDirective (s : State) (p : List Byte) : State :=
  if s.ctl.station ≠ .active then s.respond .notActive []
  else if Config.directiveQueueLength ≤ s.ctl.queue.length then s.respond .queueFull []
  else match s.postedFrame p with
    | none => s.respond .badOperand []
    | some f =>
      (s.modCtl fun c =>
        { c with queue := c.queue ++ [{ frame := f, sendCount := 0 }], nextSeq := c.nextSeq + 1 }).respond .ok [f.seq]

/-- Entry to Leaving (R104): the drain begins, and ends at once when the store is empty (R106). -/
def State.beginDrain (s : State) (count : Nat) : State :=
  ((s.enterState .leaving).modCtl fun c =>
    { c with drainCount := count, drainProgress := 0, drainEpochs := 0 }).endDrainIfEmpty

/-- DEPART: drain count (R104, R163). -/
def State.depart (s : State) (p : List Byte) : State :=
  if s.ctl.station ≠ .active then s.respond .badState []
  else if 4095 < nat16At p 0 then s.respond .badOperand []
  else (s.beginDrain (nat16At p 0)).respond .ok []

/-- Entry to Listening from Quiet. A timer that holds at E_len counts as reaching it (R22). The store is empty there
(R107), so the order of the ageing makes no difference. -/
def State.reenterListening (s : State) (sync : Level) : State :=
  let s := s.enterListening
  if s.epochBitTimes ≤ s.sbi.timer then s.timerExpired sync false else s

/-- REJOIN (R107). -/
def State.rejoin (s : State) (sync : Level) : State :=
  if s.ctl.station ≠ .quiet then s.respond .badState [] else (s.reenterListening sync).respond .ok []

/-- RESTART (R164): the reset, then the OK response. -/
def State.restart (s : State) (straps : StationNo) : State := (s.startLoad .command straps).respond .ok []

/-- The command that a taken frame names. -/
def State.runCommand (straps : StationNo) (sync : Level) (c : Command) (p : List Byte) (s : State) : State :=
  match c with
  | .readView => s.readView p
  | .clearEvents => s.clearEvents p
  | .setEventMask => s.setEventMask p
  | .clearCaptures => s.clearCaptures p
  | .clearCounters => s.clearCounters
  | .postDirective => s.postDirective p
  | .depart => s.depart p
  | .rejoin => s.rejoin sync
  | .restart => s.restart straps

/-! ### Meanings -/

/-- READ_VIEW (R165). -/
def execReadView (f : Frame) (s : State) : Host.Outcome State Fault Refusal :=
  .next <| s.receiveFrame (frameBytes .readView f) f.offByte fun _ p s => s.readView p

/-- CLEAR_EVENTS (R166). -/
def execClearEvents (f : Frame) (s : State) : Host.Outcome State Fault Refusal :=
  .next <| s.receiveFrame (frameBytes .clearEvents f) f.offByte fun _ p s => s.clearEvents p

/-- SET_EVENT_MASK (R167). -/
def execSetEventMask (f : Frame) (s : State) : Host.Outcome State Fault Refusal :=
  .next <| s.receiveFrame (frameBytes .setEventMask f) f.offByte fun _ p s => s.setEventMask p

/-- CLEAR_CAPTURES (R168). -/
def execClearCaptures (f : Frame) (s : State) : Host.Outcome State Fault Refusal :=
  .next <| s.receiveFrame (frameBytes .clearCaptures f) f.offByte fun _ p s => s.clearCaptures p

/-- CLEAR_COUNTERS (R170). -/
def execClearCounters (f : Frame) (s : State) : Host.Outcome State Fault Refusal :=
  .next <| s.receiveFrame (frameBytes .clearCounters f) f.offByte fun _ _ s => s.clearCounters

/-- POST_DIRECTIVE (R114). -/
def execPostDirective (f : Frame) (s : State) : Host.Outcome State Fault Refusal :=
  .next <| s.receiveFrame (frameBytes .postDirective f) f.offByte fun _ p s => s.postDirective p

/-- DEPART (R104). -/
def execDepart (f : Frame) (s : State) : Host.Outcome State Fault Refusal :=
  .next <| s.receiveFrame (frameBytes .depart f) f.offByte fun _ p s => s.depart p

/-- REJOIN (R107). -/
def execRejoin (sync : Level) (f : Frame) (s : State) : Host.Outcome State Fault Refusal :=
  .next <| s.receiveFrame (frameBytes .rejoin f) f.offByte fun _ _ s => s.rejoin sync

/-- RESTART (R164). -/
def execRestart (straps : StationNo) (f : Frame) (s : State) : Host.Outcome State Fault Refusal :=
  .next <| s.receiveFrame (frameBytes .restart f) f.offByte fun _ _ s => s.restart straps

/-- UNKNOWN_COMMAND (R162): any frame, judged as it comes; one that is taken after all runs its command
(notes/assumptions/19.md). -/
def execUnknownCommand (straps : StationNo) (sync : Level) (f : RawFrame) (s : State) :
    Host.Outcome State Fault Refusal :=
  .next <| s.receiveFrame f.bytes f.offByte (State.runCommand straps sync)

end Sys2Proof.Machine
end

