-- ==== Sys2Proof/Machine/Pacer.lean ====
section
/-! DEFINITION. The pacer (10.3, 10.4): the release of a queue head, and the meaning of PACER_STEP. -/

namespace Sys2Proof.Machine

open Sys2Proof

/-- A head of a queue released and charged (R141, R156). -/
def State.chargeRelease (s : State) (q : Fin 12) (d : Descriptor) : State :=
  let s := (s.modStore fun st => st.release q d).send (.release d.tag)
  let s := s.modCounters fun c => { c with releases := countUp 1 c.releases }
  s.modMeter fun m => { m with credits := m.credits.set q (m.credits[q] - d.cells) }

/-- A release reported to the Station Controller: drain progress and the drain's end (R105, R106, R159). -/
def State.reportRelease (s : State) : State :=
  if s.ctl.station = .leaving then
    let s := s.modCtl fun c => { c with drainProgress := satInc 4095 c.drainProgress }
    if s.ctl.drainCount ≠ 0 ∧ s.ctl.drainProgress = s.ctl.drainCount then s.endDrain else s.endDrainIfEmpty
  else s

/-- The visit of a ring slot (R155 item 2). -/
def State.visit (s : State) (slot : RingSlot) : State :=
  let q := queueIndex slot.target slot.cls
  if slot.skip then s
  else match s.store.queues[q] with
    | [] => s
    | d :: _ => if 0 < s.meter.credits[q] then (s.chargeRelease q d).reportRelease else s

/-- The stop flag and the advance of the position (R155 items 3 and 4). -/
def Meter.advance (m : Meter) (slot : RingSlot) (length : Nat) : Meter :=
  { m with halt := m.halt || slot.stop, position := (m.position + 1) % length }

/-- A step of a running pacer (R155). -/
def State.pace (s : State) : State :=
  if s.meter.halt then s
  else match s.settings.ring[s.meter.position]? with
    | none => s
    | some slot => (s.visit slot).modMeter fun m => m.advance slot s.settings.ring.length

/-- The time to the pacer's next step: one step interval after the last step, or after the pacer's start (R154). -/
def State.untilStep (s : State) : Nat := s.settings.stepInterval - s.meter.sinceStep

/-- The next step's time reached, and the interval to the step after it begun (R154). -/
def State.reachStep (s : State) : State :=
  (s.passTime s.untilStep).modMeter fun m => { m with sinceStep := m.sinceStep - s.settings.stepInterval }

/-- PACER_STEP (R154, R155): the next step of a running pacer, at its time (notes/assumptions/5.md). -/
def execPacerStep (s : State) : Host.Outcome State Fault Refusal :=
  .next <| if s.meter.running then s.reachStep.pace else s

end Sys2Proof.Machine
end

