-- ==== Sys2Proof/Machine/Slots.lean ====
section
/-! DEFINITION. Census slots, readback and the SDAT-low fault (2.4, 2.7, R45 to R50): the meanings of CENSUS_SLOT_OPEN,
READBACK_MISMATCH, CENSUS_SLOT_CLOSE and SDAT_LOW_CLEAR. -/

namespace Sys2Proof.Machine

open Sys2Proof

/-- The own notice composed and put on SDAT in the own slot of a notice-sending state; a notice already there stays as
it is (R26, R57). -/
def State.openSlot (s : State) (slot : StationNo) : State :=
  if slot = s.own ∧ s.sbi.txBuffer.isNone then
    match noticeStatus s.ctl.station with
    | some status => s.modSbi fun b => { b with txBuffer := some (.notice (s.composeNotice status)), readback := .driving }
    | none => s
  else s

/-- CENSUS_SLOT_OPEN (R25, R26): the phase position becomes the slot; in its own slot a station in a notice-sending
state composes its notice and transmits it. Nothing opens in Unaligned, Stalled and Suspended (R24). -/
def execCensusSlotOpen (slot : StationNo) (s : State) : Host.Outcome State Fault Refusal :=
  .next <|
    if observes s.ctl.station && decide (s.sbi.phase.rank ≤ (Phase.slot slot).rank) then
      ((s.advanceTo (slotStart slot)).modSbi fun b => { b with phase := .slot slot }).openSlot slot
    else s

/-- Where the station's own frame stands on the bus. -/
def Sbi.place (b : Sbi) : Option Place :=
  match b.phase with
  | .slot k => some (.slot k)
  | .directiveWindow => some .directiveWindow
  | .unaligned | .markGuard | .vetoWindow | .settle | .idle | .stalled | .suspended => none

/-- A readback mismatch of the frame being driven: SDAT released, READBACK, the Bus capture, and the veto reason of an
Active station (R34, R53). -/
def State.mismatch (s : State) (place : Place) (bitTime : Nat) : State :=
  (((s.modSbi fun b => { b with readback := .mismatched }).raise .readback).recordBus
    (.readback place bitTime s.sbi.seq)).addReason fun r => { r with ownAbandoned := true }

/-- A withdrawal at a key bit: SDAT released for the rest of the window (R30). -/
def State.withdraw (s : State) : State := s.modSbi fun b => { b with readback := .withdrawn }

/-- Whether the bit time lies in the arbitration key (R29). -/
def isKeyBit (bitTime : Nat) : Bool := decide (21 ≤ bitTime) && decide (bitTime ≤ 26)

/-- The bit times the station drives and reads back in the slot or window in progress: the start bit and the frame
bits (R34). -/
def Sbi.readsBack (b : Sbi) (bitTime : Nat) : Bool :=
  b.readback == .driving && decide (20 ≤ bitTime) &&
    match b.txBuffer with
    | some (.notice _) => decide (bitTime ≤ 364)
    | some (.directive _) => decide (bitTime ≤ 74)
    | none => false

/-- READBACK_MISMATCH (R34): the level sampled at a bit time differs from the level driven. A recessive key bit read
dominant is a withdrawal, not a mismatch (R30). -/
def execReadbackMismatch (bitTime : Nat) (s : State) : Host.Outcome State Fault Refusal :=
  .next <|
    if s.sbi.readsBack bitTime then
      match s.sbi.place with
      | some .directiveWindow =>
        if isKeyBit bitTime && s.sbi.sdatDrive bitTime == .recessive then s.withdraw
        else s.mismatch .directiveWindow bitTime
      | some (.slot k) => s.mismatch (.slot k) bitTime
      | none => s
    else s

/-- The clash streak at the close of an own slot in which the station transmitted (R35). -/
def clashStreakAfter (streak : Nat) (outcome : Readback) (lead : Bool) : Nat :=
  match outcome with
  | .driving | .complete => 0
  | .mismatched => if lead then satInc 2 streak else streak
  | .idle | .withdrawn | .released => streak

/-- Whether the close of an own slot reports a number clash: the streak reaches 2 in a notice-sending state (R35,
R108). -/
def State.clashes (s : State) (lead : Bool) : Bool :=
  s.sbi.readback == .mismatched && decide (s.sbi.clashStreak < 2)
    && clashStreakAfter s.sbi.clashStreak s.sbi.readback lead == 2 && (noticeStatus s.ctl.station).isSome

/-- The own notice handed to the Census Unit when it was sent (R26, R48). -/
def State.handOver (s : State) (n : Notice) : State :=
  if s.sbi.readback = .driving ∨ s.sbi.readback = .complete then (s.hearNotice s.own n).modCensus fun c => { c with ownSent := true } else s

/-- The close of an own slot in which the station transmitted (R26, R35, R48, R108). -/
def State.closeOwnSlot (s : State) (n : Notice) (lead : Bool) : State :=
  let t := (s.handOver n).modSbi fun b => { b with clashStreak := clashStreakAfter b.clashStreak b.readback lead }
  if s.clashes lead then t.enterExcluded .clash else t

/-- The SDAT-low fault at the close of a slot: it begins when every sample is dominant (R40), and has ended when one is
recessive. -/
def State.slotFault (s : State) (samples : BitVec 400) : State :=
  s.modFaults fun f => { f with sdatLow := allDominant samples }

/-- The phase after a slot: the next slot, or the directive window (R24). -/
def phaseAfterSlot (k : StationNo) : Phase := if k = 15 then .directiveWindow else .slot (k + 1)

/-- What the close of a slot delivers: the own-slot outcome where the station transmitted, otherwise what the samples
carry (R26, R27, R48). -/
def State.deliverSlot (s : State) (slot : StationNo) (samples : BitVec 400) : State :=
  match s.sbi.txBuffer with
  | some (.notice n) => if slot = s.own then s.closeOwnSlot n (leadRecessive samples)
                        else s.receiveSlot slot (classifySlot samples)
  | some (.directive _) | none => s.receiveSlot slot (classifySlot samples)

/-- Whether the SDAT-low fault begins at the close of a slot (R40, R41). -/
def Sbi.sdatLowBegins (b : Sbi) (samples : BitVec 400) : Bool := allDominant samples && !b.faults.sdatLow

/-- A slot closed: the SDAT_LOW event and the Census Unit's event are recorded in the order `lineFirst` says (R40, R50,
R168). -/
def State.closeSlot (s : State) (slot : StationNo) (samples : BitVec 400) (lineFirst : Bool) : State :=
  let begins := s.sbi.sdatLowBegins samples
  let event : BusEvent := .sdatLow slot s.sbi.seq
  ((((s.slotFault samples).recordBusIf (begins && lineFirst) event).deliverSlot slot samples).recordBusIf
    (begins && !lineFirst) event).modSbi fun b => { b.abandon with phase := phaseAfterSlot slot }

/-- CENSUS_SLOT_CLOSE (R25, R27). A slot is closed in order, and none in Unaligned, Stalled and Suspended (R24, R25). -/
def execCensusSlotClose (slot : StationNo) (samples : BitVec 400) (lineFirst : Bool) (s : State) :
    Host.Outcome State Fault Refusal :=
  .next <|
    if observes s.ctl.station && decide (s.sbi.phase.rank ≤ (Phase.slot slot).rank) then
      (s.advanceTo (slotEnd slot)).closeSlot slot samples lineFirst
    else s

/-- SDAT sampled recessive: the SDAT-low fault ends where the SBI samples SDAT, in a slot or in the directive window
(R20, R40). -/
def State.clearSdatLow (s : State) : State :=
  if s.sbi.place.isSome then s.modFaults fun f => { f with sdatLow := false } else s

/-- SDAT_LOW_CLEAR (R40). -/
def execSdatLowClear (time : Nat) (s : State) : Host.Outcome State Fault Refusal :=
  .next <| if observes s.ctl.station then (s.advanceTo time).clearSdatLow else s

end Sys2Proof.Machine
end

