-- ==== Sys2Proof/Machine/Window.lean ====
section
/-! DEFINITION. The directive window and the veto window (2.5, 2.6, 7.3, R39): the meanings of DIRECTIVE_WINDOW_OPEN,
ARBITRATION_WITHDRAW, DIRECTIVE_WINDOW_CLOSE, VETO_WINDOW_OPEN, VETO_SAMPLE, VETO_LOW_FAULT and VETO_LOW_CLEAR. -/

namespace Sys2Proof.Machine

open Sys2Proof

/-- Whether the station has contended in the window in progress (R29). -/
def Sbi.contending (b : Sbi) : Bool :=
  match b.txBuffer with
  | some (.directive _) => true
  | some (.notice _) | none => false

/-- The directive at the head of an Active station's queue put on SDAT (R29). -/
def State.contend (s : State) : State :=
  match s.ctl.queue with
  | d :: _ =>
    if s.ctl.station = .active then
      s.modSbi fun b => { b with txBuffer := some (.directive d.frame), readback := .driving }
    else s
  | [] => s

/-- DIRECTIVE_WINDOW_OPEN (R29): an Active station with a directive at the head of its queue contends. -/
def execDirectiveWindowOpen (s : State) : Host.Outcome State Fault Refusal :=
  .next <|
    if observes s.ctl.station && decide (s.sbi.phase.rank ≤ 17) && !s.sbi.windowClosed && !s.sbi.contending then
      ((s.advanceTo (bitTimes 660)).modSbi fun b => { b.abandon with phase := .directiveWindow }).contend
    else s

/-- ARBITRATION_WITHDRAW (R30): a contender reads dominant on a key bit it drove recessive. -/
def execArbitrationWithdraw (bitTime : Nat) (s : State) : Host.Outcome State Fault Refusal :=
  .next <|
    if s.sbi.phase == .directiveWindow && s.sbi.readsBack bitTime && isKeyBit bitTime
        && s.sbi.sdatDrive bitTime == .recessive then s.withdraw
    else s

/-- The window outcomes (R30). -/
inductive WindowOutcome where
  | notContended | lost | sent | abandoned
  deriving DecidableEq, Repr

/-- The window outcome of a station, from its transmit buffer and readback state at the close (R30). An interrupted
window is never closed (R28). -/
def Sbi.windowOutcome (b : Sbi) : WindowOutcome :=
  match b.txBuffer with
  | some (.directive _) =>
    match b.readback with
    | .driving | .complete => .sent
    | .withdrawn => .lost
    | .mismatched | .released => .abandoned
    | .idle => .notContended
  | some (.notice _) | none => .notContended

/-- The head of the Directive Queue once its frame is sent: its send count rises and it awaits its epoch. A head dropped
since then awaits nothing (R110, R116). -/
def Control.sentHead (c : Control) : Control :=
  match c.queue with
  | [] => c
  | d :: ds => { c with awaiting := true, queue := { d with sendCount := satInc 255 d.sendCount } :: ds }

/-- The head of the Directive Queue after a window outcome (R116). -/
def State.windowResult (s : State) (o : WindowOutcome) : State :=
  match o with
  | .sent => s.modCtl Control.sentHead
  | .notContended | .lost | .abandoned => s

/-- What the window delivers to the Census Unit: the own frame when sent, Malformed after an abandoned frame,
otherwise what the samples carry (R30, R31, R52). -/
def Sbi.windowReception (b : Sbi) (samples : BitVec 400) : Reception 54 :=
  match b.windowOutcome, b.txBuffer with
  | .sent, some (.directive d) => .framed d.wire
  | .abandoned, _ => .malformed
  | _, _ => classifyWindow samples

/-- A directive window closed: the fault watch of SDAT, the head of the queue, the Census Unit (R30, R31, R40, R52,
R116). -/
def State.closeWindow (s : State) (samples : BitVec 400) : State :=
  (((s.modFaults fun f => { f with sdatLow := f.sdatLow && allDominant samples }).windowResult
    s.sbi.windowOutcome).receiveWindow (s.sbi.windowReception samples)).modSbi fun b =>
      { b.abandon with phase := .vetoWindow, windowClosed := true }

/-- DIRECTIVE_WINDOW_CLOSE (R30, R31, R52, R116). It may be taken before or after the veto window opens, at the same
instant (R53). -/
def execDirectiveWindowClose (samples : BitVec 400) (s : State) : Host.Outcome State Fault Refusal :=
  .next <|
    if observes s.ctl.station && decide (s.sbi.phase.rank ≤ 18) && !s.sbi.windowClosed then
      (s.advanceTo (bitTimes 700)).closeWindow samples
    else s

/-- VETO driven by an Active station that holds a veto reason (R32). -/
def State.openVeto (s : State) : State :=
  s.modSbi fun b =>
    { b with phase := .vetoWindow, vetoAsked := true
             vetoDrive := s.ctl.station == .active && s.census.reasons.any }

/-- VETO_WINDOW_OPEN (R32): the question is put once an epoch. -/
def execVetoWindowOpen (s : State) : Host.Outcome State Fault Refusal :=
  .next <|
    if observes s.ctl.station && decide (s.sbi.phase.rank ≤ 18) && !s.sbi.vetoAsked then
      (s.advanceTo (bitTimes 700)).openVeto
    else s

/-- The veto sample (R33). -/
def State.sampleVeto (s : State) (level : Level) : State :=
  if level = .dominant then (s.modSbi fun b => { b with vetoed := true }).raise .vetoed else s

/-- VETO_SAMPLE (R33): at 70.5 µs, in the veto window. -/
def execVetoSample (level : Level) (s : State) : Host.Outcome State Fault Refusal :=
  .next <|
    if observes s.ctl.station && s.sbi.phase == .vetoWindow then (s.advanceTo (bitTimes 705)).sampleVeto level else s

/-- A point outside the veto window, with the margins of the fault watch: from the mark to 69.9 µs, and from 71.1 µs
(R39). The sample of a bit time falls at its middle (R20), so that of bit time 6,990 is past 69.9 µs. -/
def outsideVetoWindow (time : Nat) : Bool := decide (time < bitTimes 699) || decide (bitTimes 711 ≤ time)

/-- VETO_LOW_FAULT (R39): VETO sampled dominant at a point outside the window. -/
def execVetoLowFault (time : Nat) (s : State) : Host.Outcome State Fault Refusal :=
  .next <|
    if observes s.ctl.station && outsideVetoWindow time && !s.sbi.faults.vetoLow then
      ((s.advanceTo time).modFaults fun f => { f with vetoLow := true }).recordBus (.vetoLow s.sbi.seq)
    else s

/-- VETO_LOW_CLEAR (R39): VETO sampled recessive at a point outside the window. -/
def execVetoLowClear (time : Nat) (s : State) : Host.Outcome State Fault Refusal :=
  .next <|
    if observes s.ctl.station && outsideVetoWindow time then
      (s.advanceTo time).modFaults fun f => { f with vetoLow := false }
    else s

end Sys2Proof.Machine
end

