-- ==== Sys2Proof/Machine/Dispatch.lean ====
section
/-! DEFINITION. One arm for each command of spec/opcode_table.json, each one call of its meaning. -/

namespace Sys2Proof.Machine

open Sys2Proof

/-- The effect of a command on everything but the queue. -/
def exec (i : Instr) (s : State) : Host.Outcome State Fault Refusal :=
  match i with
  | .powerOnReset straps => Sys2Proof.Machine.execPowerOnReset straps s
  | .pinReset => Sys2Proof.Machine.execPinReset s
  | .pinResetRelease straps => Sys2Proof.Machine.execPinResetRelease straps s
  | .restart straps frame => Sys2Proof.Machine.execRestart straps frame s
  | .granuleRead granule => Sys2Proof.Machine.execGranuleRead granule s
  | .epochTimerExpiry sync ageingFirst => Sys2Proof.Machine.execEpochTimerExpiry sync ageingFirst s
  | .syncDriveEnd => Sys2Proof.Machine.execSyncDriveEnd s
  | .syncHighFault ageingFirst => Sys2Proof.Machine.execSyncHighFault ageingFirst s
  | .trueMark time ageingFirst => Sys2Proof.Machine.execTrueMark time ageingFirst s
  | .stall => Sys2Proof.Machine.execStall s
  | .stallEnd time => Sys2Proof.Machine.execStallEnd time s
  | .censusSlotOpen slot => Sys2Proof.Machine.execCensusSlotOpen slot s
  | .readbackMismatch bitTime => Sys2Proof.Machine.execReadbackMismatch bitTime s
  | .arbitrationWithdraw bitTime => Sys2Proof.Machine.execArbitrationWithdraw bitTime s
  | .censusSlotClose slot samples lineFirst => Sys2Proof.Machine.execCensusSlotClose slot samples lineFirst s
  | .sdatLowClear time => Sys2Proof.Machine.execSdatLowClear time s
  | .directiveWindowOpen => Sys2Proof.Machine.execDirectiveWindowOpen s
  | .directiveWindowClose samples => Sys2Proof.Machine.execDirectiveWindowClose samples s
  | .vetoWindowOpen => Sys2Proof.Machine.execVetoWindowOpen s
  | .vetoSample level => Sys2Proof.Machine.execVetoSample level s
  | .vetoLowFault time => Sys2Proof.Machine.execVetoLowFault time s
  | .vetoLowClear time => Sys2Proof.Machine.execVetoLowClear time s
  | .settleStart => Sys2Proof.Machine.execSettleStart s
  | .settleComplete => Sys2Proof.Machine.execSettleComplete s
  | .depart frame => Sys2Proof.Machine.execDepart frame s
  | .rejoin sync frame => Sys2Proof.Machine.execRejoin sync frame s
  | .postDirective frame => Sys2Proof.Machine.execPostDirective frame s
  | .readView frame => Sys2Proof.Machine.execReadView frame s
  | .clearEvents frame => Sys2Proof.Machine.execClearEvents frame s
  | .setEventMask frame => Sys2Proof.Machine.execSetEventMask frame s
  | .clearCaptures frame => Sys2Proof.Machine.execClearCaptures frame s
  | .clearCounters frame => Sys2Proof.Machine.execClearCounters frame s
  | .unknownCommand straps sync frame => Sys2Proof.Machine.execUnknownCommand straps sync frame s
  | .offer tag target cls length => Sys2Proof.Machine.execOffer tag target cls length s
  | .recall tag => Sys2Proof.Machine.execRecall tag s
  | .occupancy target cells => Sys2Proof.Machine.execOccupancy target cells s
  | .linkMessageDiscard bytes => Sys2Proof.Machine.execLinkMessageDiscard bytes s
  | .pacerStep => Sys2Proof.Machine.execPacerStep s

end Sys2Proof.Machine
end

