-- ==== Sys2Proof/Machine/Port.lean ====
section
/-! DEFINITION. A transaction on MCLK and MDAT, byte by byte (R161): its address byte, the bytes of a write with their
acknowledges, the bytes of a read, and its end, at which a frame waits as a command. These operations come from outside the
queue, as the queue's commands do (notes/assumptions/21.md). A reset leaves no transaction in progress: the operations that
follow it find none, so a frame partly received forms no command, and a read cut short returns released bits. -/

namespace Sys2Proof.Machine

open Sys2Proof

/-- The transaction in progress changed. -/
def State.setTransaction (s : State) (t : Transaction) : State := s.modMgmt fun m => { m with transaction := t }

/-- A start condition and an address byte: a transaction begins when its address is acknowledged, a write or a read by the
direction bit (R161). A read returns what the response buffer holds, then its check byte (R164). -/
def State.portAddress (s : State) (address : Byte) : State :=
  if s.acknowledges (address.extractLsb' 1 7) then
    s.setTransaction (if address.getLsbD 0 then .sending (responseBytes s.mgmt.response) else .receiving [address])
  else s

/-- Whether the port acknowledges a byte after the address byte: each byte of a write transaction to it (R161). -/
def State.portAcknowledges (s : State) : Bool :=
  match s.mgmt.transaction with
  | .receiving _ => true
  | .idle | .sending _ => false

/-- A byte that the processor sends after the address byte (R161). -/
def State.portByte (s : State) (b : Byte) : State :=
  match s.mgmt.transaction with
  | .receiving bytes => s.setTransaction (.receiving (bytes ++ [b]))
  | .idle | .sending _ => s

/-- The byte that the processor reads next: released bits beyond the response, and where no read is in progress (R161,
R164). -/
def State.portRead (s : State) : Byte :=
  match s.mgmt.transaction with
  | .sending (b :: _) => b
  | .sending [] | .idle | .receiving _ => 0xFF

/-- The station once that byte has been read. -/
def State.portNext (s : State) : State :=
  match s.mgmt.transaction with
  | .sending rest => s.setTransaction (.sending rest.tail)
  | .idle | .receiving _ => s

/-- The next bytes that the processor reads. -/
def State.portReads : Nat → State → List Byte
  | 0, _ => []
  | n + 1, s => s.portRead :: State.portReads n s.portNext

/-- The stop or repeated-start condition that ends a transaction: the frame of a write waits as a command, judged by its
bytes (R161, R162). -/
def State.portEnd (s : State) (straps : StationNo) (sync : Level) (offByte : Bool) : State :=
  match s.mgmt.transaction with
  | .receiving bytes =>
    { s.setTransaction .idle with
      pending := s.pending ++ [.unknownCommand straps sync { bytes := bytes, offByte := offByte }] }
  | .sending _ => s.setTransaction .idle
  | .idle => s

end Sys2Proof.Machine
end

