-- ==== Sys2Proof/Safety.lean ====
section
/-! DEFINITION. The properties that the statements about every step are made of: what the blocks hold in Booting and
Failsafe, the bounds the rules give, and what a drive of a line, a flag or a record says about the state. Each is a
proposition that can be decided on a concrete state. Also the frames, samples and granules that the statements feed to
the station. -/

namespace Sys2Proof.Machine

open Sys2Proof

/-! ### Out of service -/

/-- A station that observes no line holds the reset values in every block but the loader, the Station Controller and
the management port, and no plan, settings, directives or counts (R11, R12, R21, R44, R61, R94, R125, R136, R148). -/
def State.blocksReset (s : State) : Prop :=
  s.sbi = Sbi.reset ∧ s.census = Census.reset ∧ s.alloc = Alloc.reset ∧ s.store = Store.reset ∧ s.meter = Meter.reset
    ∧ s.monitors = Vector.replicate 4 Monitor.reset ∧ s.loader.plan = Plan.empty ∧ s.loader.settings = Settings.empty
    ∧ s.ctl.queue = [] ∧ s.ctl.awaiting = false ∧ s.ctl.streak = 0 ∧ s.ctl.listenCount = 0

/-- A load is in flight in Booting alone, and Booting and Failsafe leave the blocks at their reset values. -/
def RestInv (s : State) : Prop :=
  (s.loader.phase ≠ .idle → s.ctl.station = .booting) ∧ (observes s.ctl.station = false → s.blocksReset)

/-- The configuration memory port: a load is in flight in Booting and never outside it, CFG_SEL is low while one reads,
and CFG_CLK is held low otherwise (R2, R12). -/
def PortInv (s : State) : Prop :=
  (s.loader.phase ≠ .idle ↔ s.ctl.station = .booting)
    ∧ (s.loader.cfgSelected = true ↔ s.ctl.station = .booting ∧ s.resetLow = false)
    ∧ (s.cfgClockHeldLow = true ↔ s.ctl.station ≠ .booting ∨ s.resetLow = true)

/-! ### The loaded plan and settings -/

/-- A plan entry within the ranges of R5 and R6. -/
def PlanEntry.valid (targets : Nat) (e : PlanEntry) : Prop :=
  e.target.val < targets ∧ 1 ≤ e.weight ∧ e.weight ≤ 255 ∧ e.floor ≤ e.ceiling ∧ 1 ≤ e.ceiling ∧ e.ceiling ≤ 65535

/-- A plan within the ranges of R4, its entries valid, the last entry of each target closing a tier (R4 to R6). -/
def Plan.valid (p : Plan) : Prop :=
  (100 ≤ p.epochLength ∧ p.epochLength ≤ 2000) ∧ (1 ≤ p.targets ∧ p.targets ≤ 4)
    ∧ (∀ t : Fin 4, 1 ≤ p.capacity[t] ∧ p.capacity[t] ≤ 65535 ∧ 25 ≤ p.pressedPercent[t] ∧ p.pressedPercent[t] ≤ 100)
    ∧ (1 ≤ p.listenEpochs ∧ p.listenEpochs ≤ 15) ∧ (1 ≤ p.missLimit ∧ p.missLimit ≤ 7)
    ∧ (1 ≤ p.voidLimit ∧ p.voidLimit ≤ 15) ∧ (1 ≤ p.entries.length ∧ p.entries.length ≤ 96)
    ∧ (∀ e ∈ p.entries, e.valid p.targets)
    ∧ ∀ t : Fin 4, ∀ e ∈ (p.entries.filter fun e => e.target == t).getLast?, e.tierEnd = true

/-- Local Settings within the ranges of R8 and R9. -/
def Settings.valid (targets : Nat) (l : Settings) : Prop :=
  (1 ≤ l.ageLimit ∧ l.ageLimit ≤ 255) ∧ (∀ q : Fin 12, 1 ≤ l.queueLimits[q] ∧ l.queueLimits[q] ≤ 512)
    ∧ (∀ c : Fin 3, l.banks[c] ≤ 4095) ∧ (1 ≤ l.ring.length ∧ l.ring.length ≤ 32)
    ∧ (∀ r ∈ l.ring, r.target.val < targets) ∧ (1 ≤ l.stepInterval ∧ l.stepInterval ≤ 500)
    ∧ (∀ t : Fin 4, l.monitors[t].low < l.monitors[t].high ∧ l.monitors[t].high ≤ 65535
        ∧ 1 ≤ l.monitors[t].debounce ∧ l.monitors[t].debounce ≤ 8)
    ∧ (1 ≤ l.drainLimit ∧ l.drainLimit ≤ 255)

/-- A station that observes the lines holds a valid plan and valid settings, and a load that reads its local section has
validated a plan (R14, R16). -/
def LoadedInv (s : State) : Prop :=
  (observes s.ctl.station = true → s.plan.valid ∧ s.settings.valid s.plan.targets)
    ∧ (s.loader.phase = .localPhase → s.loader.stagedPlan.valid)

/-! ### The fields of a section out of their ranges (R4 to R9, R15, R176) -/

/-- The plan entry at offset `e` has a field out of range, at offset `o` of the section. -/
def planEntryOut (d : List Byte) (e o : Nat) : Prop :=
  (o = e ∧ 15 < nat8At d e ∧ nat8At d e ≠ 255) ∨ (o = e + 1 ∧ nat8At d 2 ≤ nat8At d (e + 1))
    ∨ (o = e + 2 ∧ 2 < nat8At d (e + 2)) ∨ (o = e + 3 ∧ nat8At d (e + 3) = 0)
    ∨ (o = e + 6 ∧ (nat16At d (e + 6) = 0 ∨ nat16At d (e + 6) < nat16At d (e + 4)))
    ∨ (o = e + 8 ∧ 1 < nat8At d (e + 8)) ∨ (o = e + 9 ∧ 1 < nat8At d (e + 9))

/-- The plan section has a field out of range at offset `o`, the tier-end rule aside. -/
def planFieldOut (d : List Byte) (o : Nat) : Prop :=
  (o = 0 ∧ ¬ (100 ≤ nat16At d 0 ∧ nat16At d 0 ≤ 2000)) ∨ (o = 2 ∧ ¬ (1 ≤ nat8At d 2 ∧ nat8At d 2 ≤ 4))
    ∨ (∃ t : Fin 4, (o = 3 + 2 * t.val ∧ nat16At d o = 0)
        ∨ (o = 11 + t.val ∧ ¬ (25 ≤ nat8At d o ∧ nat8At d o ≤ 100)))
    ∨ (o = 15 ∧ ¬ (1 ≤ nat8At d 15 ∧ nat8At d 15 ≤ 15)) ∨ (o = 16 ∧ ¬ (1 ≤ nat8At d 16 ∧ nat8At d 16 ≤ 7))
    ∨ (o = 17 ∧ ¬ (1 ≤ nat8At d 17 ∧ nat8At d 17 ≤ 15))
    ∨ (o = 18 ∧ (¬ (1 ≤ nat8At d 18 ∧ nat8At d 18 ≤ 96) ∨ d.length < 19 + 10 * nat8At d 18 + 4))
    ∨ ∃ n, n < nat8At d 18 ∧ planEntryOut d (19 + 10 * n) o

/-- The last entry of target `t` does not close a tier; `o` is the offset of its tier-end field (R6, R15). -/
def tierEndOut (d : List Byte) (t o : Nat) : Prop :=
  t < nat8At d 2 ∧ ∃ n, n < nat8At d 18 ∧ nat8At d (19 + 10 * n + 1) = t
    ∧ (∀ m, n < m → m < nat8At d 18 → nat8At d (19 + 10 * m + 1) ≠ t)
    ∧ o = 19 + 10 * n + 9 ∧ nat8At d o ≠ 1

/-- The local section has a field out of range at offset `o`. -/
def localFieldOut (d : List Byte) (strapped : StationNo) (targets o : Nat) : Prop :=
  (o = 0 ∧ nat8At d 0 ≠ strapped.toNat) ∨ (o = 3 ∧ 2 < nat8At d 3) ∨ (o = 4 ∧ nat8At d 4 = 0)
    ∨ (∃ q : Fin 12, o = 5 + 2 * q.val ∧ ¬ (1 ≤ nat16At d o ∧ nat16At d o ≤ 512))
    ∨ (∃ c : Fin 3, o = 29 + 2 * c.val ∧ 4095 < nat16At d o)
    ∨ (o = 35 ∧ ¬ (1 ≤ nat8At d 35 ∧ nat8At d 35 ≤ 32))
    ∨ (∃ i, i < nat8At d 35 ∧ ((o = 36 + 4 * i ∧ targets ≤ nat8At d o) ∨ (o = 36 + 4 * i + 1 ∧ 2 < nat8At d o)
        ∨ (o = 36 + 4 * i + 2 ∧ 1 < nat8At d o) ∨ (o = 36 + 4 * i + 3 ∧ 1 < nat8At d o)))
    ∨ (o = 164 ∧ ¬ (1 ≤ nat16At d 164 ∧ nat16At d 164 ≤ 500))
    ∨ (∃ t : Fin 4, (o = 168 + 5 * t.val ∧ nat16At d (166 + 5 * t.val) ≤ nat16At d o)
        ∨ (o = 170 + 5 * t.val ∧ ¬ (1 ≤ nat8At d o ∧ nat8At d o ≤ 8)))
    ∨ (o = 186 ∧ nat8At d 186 = 0)

/-! ### Bounds of the blocks -/

/-- The SBI's bounds: the timer holds at E_len, the clash streak reaches 2 at most (R21, R22, R35). -/
def SbiInv (s : State) : Prop := s.sbi.timer ≤ s.epochBitTimes ∧ s.sbi.clashStreak ≤ 2

/-- The phase position: Stalled while SYNC is stuck low; of the states that observe the lines, Listening alone is
Unaligned (R21, R24, R36). -/
def PhaseInv (s : State) : Prop :=
  (s.sbi.faults.syncLow = true → s.sbi.phase = .stalled)
    ∧ (observes s.ctl.station = true → s.sbi.phase = .unaligned → s.ctl.station = .listening)

/-- Whether a state permits what the transmit buffer holds on SDAT (R19). -/
def permitsFrame (st : StationState) : Option TxFrame → Bool
  | some (.notice _) => (noticeStatus st).isSome
  | some (.directive _) => st == .active
  | none => true

/-- Each line is driven in a state that may drive it (R19). -/
def LinesInv (s : State) : Prop :=
  (s.sbi.syncDrive ≠ .released → drivesSync s.ctl.station = true)
    ∧ (s.sbi.vetoDrive = true → s.ctl.station = .active)
    ∧ (s.sbi.readback = .driving → permitsFrame s.ctl.station s.sbi.txBuffer = true)

/-- A Peer Table entry of a slot: the miss count counts a Held entry alone and stays below the miss limit, a Held entry
was last heard Active or Leaving, and contents come from the slot's number (R46, R47, R49). -/
def PeerEntry.consistent (limit : Nat) (k : StationNo) (e : PeerEntry) : Prop :=
  (e.state ≠ .held → e.missCount = 0)
    ∧ (e.state = .held → 1 ≤ e.missCount ∧ e.missCount < limit ∧ e.status.any NoticeStatus.serving = true)
    ∧ (e.state = .heard → e.contents.isSome = true) ∧ (∀ n ∈ e.contents, n.sender = k)

/-- Whether the notice in the transmit buffer, if there is one, is the station's own (R26, R57). -/
def Sbi.sendsAs (b : Sbi) (own : StationNo) : Bool :=
  match b.txBuffer with
  | some (.notice n) => n.sender == own
  | some (.directive _) | none => true

/-- Every Peer Table entry is consistent, and the notice being sent is the station's own. -/
def PeersInv (s : State) : Prop :=
  (∀ k : StationNo, (s.census.entry k).consistent s.plan.missLimit k) ∧ s.sbi.sendsAs s.own = true

/-- The pairs of origin and void count that R82 allows. -/
def originPair (limit : Nat) (origin : Origin) (count : Nat) : Prop :=
  (origin = .computed → count = 0) ∧ (origin = .carried → 1 ≤ count ∧ count < limit)
    ∧ (origin = .fallback → count = 0 ∨ count = limit)

/-- The standing record and the pending one each stand with a void count that R82 allows. -/
def VoidInv (s : State) : Prop :=
  originPair s.plan.voidLimit s.alloc.standing.origin s.alloc.voidCount
    ∧ ∀ r ∈ s.alloc.pending, originPair s.plan.voidLimit r.origin s.alloc.pendingVoid

/-- The settle holds what was handed to it while it is in flight, and nothing otherwise (R56, R62). -/
def SettleInv (s : State) : Prop := s.alloc.handOver.isSome = true ↔ s.alloc.settle = .inFlight

/-- The places of a record beside their grants, in plan order (R60). -/
def Record.cells (plan : Plan) (r : Record) : List (GrantPlace × Nat) := plan.places.zip r.grants

/-- The cells a record grants of one target. -/
def Record.granted (plan : Plan) (r : Record) (t : Fin 4) : Nat :=
  (((r.cells plan).filter fun pg => pg.1.target == t).map (·.2)).sum

/-- A record within its bounds: one grant for each place, no target granted more than its effective capacity, no place
more than its ceiling, no guest's place more than its floor (R60, R71). -/
def Record.bounded (plan : Plan) (r : Record) : Prop :=
  r.grants.length = plan.places.length ∧ (∀ t : Fin 4, r.granted plan t ≤ r.capacities[t])
    ∧ ∀ pg ∈ r.cells plan,
        pg.2 ≤ pg.1.ceiling ∧ (holds r.guests pg.1.station = true → holds r.members pg.1.station = false →
          pg.2 ≤ pg.1.floor)

/-- The standing record and the pending one are within their bounds (R71). -/
def AllocInv (s : State) : Prop :=
  s.alloc.standing.bounded s.plan ∧ ∀ r ∈ s.alloc.pending, r.bounded s.plan

/-- The Directive Queue holds at most four records, and none out of service (R115). -/
def DirectiveInv (s : State) : Prop :=
  s.ctl.queue.length ≤ 4
    ∧ (s.ctl.station = .quiet ∨ s.ctl.station = .fenced ∨ s.ctl.station = .excluded ∨ s.ctl.station = .failsafe
        ∨ s.ctl.station = .booting → s.ctl.queue = [])

/-- A monitor in use, by its state (R126, R127, R129). -/
def Monitor.consistent (debounce : Nat) (m : Monitor) : Prop :=
  (m.state = .masked → m.highCount ≤ debounce ∧ m.lowCount = 0 ∧ m.marks < 4)
    ∧ (m.state = .clear → m.highCount < debounce ∧ m.lowCount = 0 ∧ m.marks < 4)
    ∧ (m.state = .pressed → m.highCount = 0 ∧ m.lowCount < debounce ∧ m.marks < 4)
    ∧ (m.state = .stale → m.highCount = 0 ∧ m.lowCount = 0 ∧ m.marks = 4)

/-- The monitors in use are consistent, and the others rest in Masked (R125, R126). -/
def MonitorsInv (s : State) : Prop :=
  ∀ t : Fin 4, if inUse s t then s.monitors[t].consistent s.settings.monitors[t].debounce
    else s.monitors[t] = Monitor.reset

/-- A descriptor within the ranges of R135, in the queue of its target and class. -/
def Descriptor.valid (s : State) (q : Fin 12) (d : Descriptor) : Prop :=
  queueIndex d.target d.cls = q ∧ d.target.val < s.plan.targets ∧ 64 ≤ d.length ∧ d.length ≤ 9216
    ∧ d.cells = cellsOf d.length ∧ d.age ≤ s.settings.ageLimit

/-- The bounds of the Descriptor Store (R135, R140, R142). -/
def StoreInv (s : State) : Prop :=
  s.store.heldCount ≤ 512 ∧ (s.store.held.map (·.tag)).Nodup ∧ s.store.history.length ≤ 64
    ∧ ∀ q : Fin 12, s.store.queues[q].length ≤ s.settings.queueLimits[q]
        ∧ s.store.arrivals[q] ≤ 65535 ∧ s.store.previous[q] ≤ 65535
        ∧ ∀ d ∈ s.store.queues[q], d.valid s q

/-- The bounds of the credit counters, and of the frames that are charged to them (R135, R148). -/
def CreditInv (s : State) : Prop :=
  (∀ q : Fin 12, -71 ≤ s.meter.credits[q] ∧ s.meter.credits[q] ≤ 65535)
    ∧ ∀ d ∈ s.store.held, 1 ≤ d.cells ∧ d.cells ≤ 72

/-- The pacer runs in the releasing states alone, and the others hold no credit (R151, R154). -/
def MeterInv (s : State) : Prop :=
  s.meter.running = releases s.ctl.station
    ∧ (releases s.ctl.station = false → ∀ q : Fin 12, s.meter.credits[q] ≤ 0)

/-- The flags whose condition cannot hold without them: all the condition flags but FALLBACK, which a reset leaves clear
while its condition holds (R166). -/
def FlagsInv (s : State) : Prop :=
  ∀ e ∈ [Event.line, Event.excluded, Event.fenced, Event.stale, Event.failsafe],
    s.condition e = true → s.mgmt.flag e = true

/-! ### What the statements feed to the station -/

/-- The frame of a command to a station, its check byte correct; every check mode takes it (R162). -/
def checkedFrame (s : State) (c : Command) (parameters : List Byte) : Frame :=
  { address := writeAddress s.own, length := byte parameters.length, offByte := false
    rest := parameters ++
      [managementCheck (writeAddress s.own :: c.code :: byte parameters.length :: parameters)] }

/-- Bits as one number, the first the most significant. -/
def ofBits (w : Nat) (bits : List Bool) : BitVec w := bits.foldl (fun x b => (x <<< 1) ||| (BitVec.ofBool b).setWidth w) 0

/-- The 400 samples of a slot or window in which a frame was sent: the lead, the start bit, the frame bits, and the tail
(2.4, 2.5). -/
def samplesOf (bits : List Bool) : BitVec 400 :=
  ofBits 400 (List.replicate 20 true ++ false :: bits ++ List.replicate (379 - bits.length) true)

/-- The granule of eight data bytes with its check byte (R176). -/
def encodeGranule (d : BitVec 64) : BitVec 72 :=
  let low := ofBits 7 ((List.range 7).reverse.map (dataParity d))
  d ++ (BitVec.ofBool (parity (bitsOf d ++ bitsOf low)) ++ low)

/-! ### What the statements say about loads and marks -/

/-- A station whose load has just failed: Failsafe with its cause and position, the flag and the capture, nothing being
read, and all else as it was (R3, R15, R17). -/
def State.loadFailed (s : State) (cause : Cause) (position : FailurePosition) (event : ConfigEvent) : State :=
  { s with
    loader := { s.loader with phase := .idle, data := [], stagedPlan := Plan.empty, failurePosition := position,
                              cfgSelected := false, cfgCommand := [], port := s.loader.port ++ [.selectHigh] }
    ctl := { s.ctl with station := .failsafe, cause := cause }
    mgmt := { s.mgmt with flags := s.mgmt.flags ||| eventBit .failsafe, config := s.mgmt.config.record event } }

/-- A load in flight has one granule of its section to come, and takes it clean: `d` is the section whole (R3). -/
def State.lastGranule (s : State) (g : BitVec 72) (d : List Byte) : Prop :=
  s.resetLow = false ∧ s.loader.data.length + 8 = 8 * s.loader.reading.length
    ∧ ∃ x, checkGranule g = .clean x ∧ d = s.loader.data ++ granuleBytes x

/-- A true mark at a time that the epoch timer reaches (R21, R22). -/
def State.markAt (s : State) (time : Nat) : Prop :=
  observes s.ctl.station = true ∧ s.sbi.running = true ∧ s.sbi.timer ≤ time ∧ time ≤ s.epochBitTimes

/-- The epoch ends at such a mark without being cut (R42). -/
def State.uncutAt (s : State) (time : Nat) : Prop :=
  s.markAt time ∧ 9600 ≤ time ∧ s.sbi.phase ≠ .unaligned ∧ s.sbi.phase ≠ .stalled ∧ s.sbi.phase ≠ .suspended

/-- The epoch is cut by such a mark (R42). -/
def State.cutAt (s : State) (time : Nat) : Prop :=
  s.markAt time ∧ (s.sbi.phase = .stalled ∨ s.sbi.phase = .suspended ∨ (s.sbi.phase ≠ .unaligned ∧ time < 9600))

/-- A command that makes a local mark in this state: the epoch timer at E_len while SYNC is stuck low, or SYNC found
recessive at the drive of a mark (R37). -/
def State.localMarkBy (s : State) (c : Instr) (ageingFirst : Bool) : Prop :=
  drivesSync s.ctl.station = true
    ∧ ((∃ sync, c = .epochTimerExpiry sync ageingFirst ∧ s.sbi.faults.syncLow = true)
      ∨ (c = .syncHighFault ageingFirst ∧ s.sbi.syncDrive = .attempting))

/-- A command that cuts the epoch by a mark, local or true (R37, R42). -/
def State.cutBy (s : State) (c : Instr) (ageingFirst : Bool) : Prop :=
  s.localMarkBy c ageingFirst ∨ ∃ time, c = .trueMark time ageingFirst ∧ s.cutAt time

/-- A command that ends the epoch by a mark, cut or not. -/
def State.endedBy (s : State) (c : Instr) (ageingFirst : Bool) : Prop :=
  s.cutBy c ageingFirst ∨ ∃ time, c = .trueMark time ageingFirst ∧ s.uncutAt time

/-- A command that makes a mark, whether it ends an epoch or not. -/
def State.markedBy (s : State) (c : Instr) (ageingFirst : Bool) : Prop :=
  s.localMarkBy c ageingFirst ∨ ∃ time, c = .trueMark time ageingFirst ∧ s.markAt time

/-- The station has entered Quiet, Fenced or Excluded between two states. -/
abbrev State.outAt (s t : State) : Prop :=
  t.ctl.station ≠ s.ctl.station ∧ (t.ctl.station = .quiet ∨ t.ctl.station = .fenced ∨ t.ctl.station = .excluded)

/-- The timer's reading at the mark that a command makes. -/
def State.markTime (s : State) : Instr → Nat
  | .trueMark time _ => time
  | .epochTimerExpiry _ _ => 100 * s.plan.epochLength
  | _ => s.sbi.timer

/-- The void count that a void epoch leads to (R75, R81). -/
def State.nextVoidCount (s : State) : Nat := min (s.alloc.voidCount + 1) s.plan.voidLimit

/-- The record that a void epoch leads to: carried below the void limit, the Fallback allocation at it (R75, R76). -/
def State.voidSuccessor (s : State) : Record :=
  if s.nextVoidCount < s.plan.voidLimit then { s.alloc.standing with origin := .carried }
  else fallbackRecord s.plan s.alloc.standing

/-- The Allocation Engine after a cutting mark (R73, R77). -/
def State.cutAlloc (s : State) : Alloc :=
  { standing := s.voidSuccessor, pending := none, voidCount := s.nextVoidCount, pendingVoid := s.nextVoidCount
    settle := .idle, handOver := none }

/-- What every mark leaves, local or true, for the epoch it begins: the timer at 0, nothing driven on SDAT and VETO, no veto
asked for or sampled, both windows to come, and in the Census Unit nothing heard, no veto reason, no received directive, and
no result or adoption of the epoch that ended (R23, R37, R51, R87, R89). -/
def State.atEpochStart (t : State) : Prop :=
  (t.sbi.timer = 0 ∧ t.sbi.txBuffer = none ∧ t.sbi.readback = .idle ∧ t.sbi.vetoDrive = false ∧ t.sbi.vetoAsked = false
      ∧ t.sbi.vetoed = false ∧ t.sbi.windowClosed = false)
    ∧ t.census.heard = 0 ∧ t.census.reasons.any = false ∧ t.census.received = none ∧ t.census.ownSent = false
      ∧ t.census.adopted = none ∧ t.census.result = none

/-! ### What the statements say about shares (R69 to R71) -/

/-- Amounts served in order: each as far as what those before it leave reaches (R69, R71). -/
def servedInOrder (available : Nat) (amounts : List Nat) : List Nat :=
  amounts.mapIdx fun i a => min a (available - (amounts.take i).sum)

/-- The grants of a tier's active places after one more share round: each place below its want gets its weight's share of
what is left, or its unmet want if that is smaller (R70). -/
def afterShareRound (available : Nat) (places : List Cell) (grants : List Nat) : List Nat :=
  let pairs := places.zip grants
  let weights := ((pairs.filter fun p => decide (p.2 < p.1.want)).map (·.1.place.weight)).sum
  pairs.map fun p => p.2 + min (p.1.want - p.2) ((available - grants.sum) * p.1.place.weight / weights)

/-- The grants of a tier's active places, in plan order, by their wants: the floors in order, four share rounds, then the
unmet wants in order (R68 to R71). A round that the spec leaves out, with nothing left or nothing short, or after one that
gave nothing, gives nothing here. -/
def tierGrants (available : Nat) (places : List Cell) : List Nat :=
  let round := afterShareRound available places
  let shared := round (round (round (round (servedInOrder available (places.map fun c => min c.place.floor c.want)))))
  let unmet := List.zipWith (fun c g => c.want - g) places shared
  List.zipWith (· + ·) shared (servedInOrder (available - shared.sum) unmet)

/-! ### What the statements say about slots and frames -/

/-- The timer brought to the end of a slot, and the SBI after that slot's close, with no SDAT fault and nothing on the
line (R24, R25). -/
def State.slotClosed (s : State) (slot : StationNo) : State :=
  let u := s.advanceTo (slotEnd slot)
  { u with sbi := { u.sbi with faults := { u.sbi.faults with sdatLow := false }, txBuffer := none, readback := .idle
                               phase := if slot = 15 then .directiveWindow else .slot (slot + 1) } }

/-- A slot can close: the station observes the lines and the epoch has not passed the slot (R24, R25). -/
def State.canClose (s : State) (slot : StationNo) : Prop :=
  observes s.ctl.station = true ∧ s.sbi.phase.rank ≤ slot.toNat + 1

/-- What no mark touches: the loader, the Peer Table, the release history, the transaction in progress, the response, the mask, the captures of other
events and the counters of other events. -/
def State.markFrame (s t : State) : Prop :=
  (t.pending = s.pending ∧ t.loader = s.loader ∧ t.resetLow = s.resetLow ∧ t.sbi.running = s.sbi.running
      ∧ t.sbi.clashStreak = s.sbi.clashStreak)
    ∧ (t.census.peers = s.census.peers ∧ t.census.activeHeard = s.census.activeHeard
      ∧ t.ctl.lastReset = s.ctl.lastReset ∧ t.ctl.nextSeq = s.ctl.nextSeq ∧ t.ctl.drainCount = s.ctl.drainCount
      ∧ t.ctl.drainProgress = s.ctl.drainProgress ∧ t.store.history = s.store.history
      ∧ ∀ i : Fin 4, t.monitors[i].lastReading = s.monitors[i].lastReading)
    ∧ (t.mgmt.transaction = s.mgmt.transaction
      ∧ t.mgmt.response = s.mgmt.response ∧ t.mgmt.mask = s.mgmt.mask ∧ t.mgmt.checkMode = s.mgmt.checkMode
      ∧ t.mgmt.agreement = s.mgmt.agreement ∧ t.mgmt.config = s.mgmt.config)
    ∧ (t.mgmt.counters.offersTaken = s.mgmt.counters.offersTaken
      ∧ t.mgmt.counters.offersRefused = s.mgmt.counters.offersRefused
      ∧ t.mgmt.counters.releases = s.mgmt.counters.releases ∧ t.mgmt.counters.recalls = s.mgmt.counters.recalls
      ∧ t.mgmt.counters.badFrames = s.mgmt.counters.badFrames
      ∧ t.mgmt.counters.ignoredReports = s.mgmt.counters.ignoredReports)

/-- What no entry to Quiet or Excluded touches: the loader, the Census Unit, the Allocation Engine, the monitors, the
arrival counts, the mask and the captures. -/
def State.exitFrame (s t : State) : Prop :=
  (t.pending = s.pending ∧ t.loader = s.loader ∧ t.resetLow = s.resetLow ∧ t.sbi.seq = s.sbi.seq
      ∧ t.sbi.running = s.sbi.running)
    ∧ (t.census = s.census ∧ t.alloc = s.alloc ∧ t.monitors = s.monitors ∧ t.store.arrivals = s.store.arrivals
      ∧ t.store.previous = s.store.previous ∧ t.ctl.lastReset = s.ctl.lastReset ∧ t.ctl.nextSeq = s.ctl.nextSeq
      ∧ t.ctl.streak = s.ctl.streak)
    ∧ (t.mgmt.transaction = s.mgmt.transaction
      ∧ t.mgmt.mask = s.mgmt.mask ∧ t.mgmt.checkMode = s.mgmt.checkMode ∧ t.mgmt.bus = s.mgmt.bus
      ∧ t.mgmt.agreement = s.mgmt.agreement ∧ t.mgmt.directive = s.mgmt.directive ∧ t.mgmt.config = s.mgmt.config)

/-! ### The view pages, field by field (R175) -/

/-- A run of bytes has these fields at these offsets. -/
def fieldsAt (b : List Byte) (fields : List (Nat × List Byte)) : Prop :=
  ∀ f ∈ fields, (b.drop f.1).take f.2.length = f.2

/-- Page 0: state, cause, failure position, last reset cause, sequence, counts, number, digest, drain, check mode, flags,
mask, directives. The value of a failure position of kind none reads 0 (notes/assumptions/9.md), bits 14 and 15 of the event
flags read 0 (notes/assumptions/26.md), and head awaiting is 1 or 0 (notes/assumptions/27.md). -/
def State.fields0 (s : State) : List (Nat × List Byte) :=
  [(0, [s.ctl.station.code]), (1, [s.ctl.cause.code]),
   (2, match s.loader.failurePosition with
     | .none => [0, 0, 0]
     | .field .header o => 1 :: nat16 o
     | .field .plan o => 2 :: nat16 o
     | .field .localSection o => 3 :: nat16 o
     | .granule g => 4 :: nat16 g
     | .station k => [5, 0, byte k.toNat]),
   (5, [s.ctl.lastReset.code]), (6, [s.sbi.seq]), (7, [byte s.alloc.voidCount]), (8, [byte s.ctl.streak]),
   (9, [byte s.ctl.listenCount]), (10, [byte s.own.toNat]), (11, bytes32 s.loader.planDigest), (15, nat16 s.ctl.drainCount),
   (17, nat16 s.ctl.drainProgress), (19, [byte s.ctl.drainEpochs]), (20, [s.mgmt.checkMode.code]),
   (21, nat16 s.mgmt.flags.toNat), (23, nat16 s.mgmt.mask.toNat), (25, [s.ctl.nextSeq]), (26, [byte s.ctl.queue.length]),
   (27, [boolByte s.ctl.awaiting])]

/-- The directive record of page 0 at a place of the queue; zeros beyond its depth. -/
def State.directiveFields (s : State) (i : Nat) : Nat × List Byte :=
  (28 + 6 * i, match s.ctl.queue[i]? with
    | none => List.replicate 6 0
    | some d => [byte d.frame.priority.toNat, d.frame.seq, d.frame.kind.code] ++ bytes16 d.frame.operand ++ [byte d.sendCount])

/-- Page 1: the entry of a station; an entry with no contents reads 0 there (notes/assumptions/9.md). -/
def State.fields1 (s : State) (k : StationNo) : List (Nat × List Byte) :=
  let e := s.census.entry k
  let o := 2 + 45 * k.toNat
  [(0, bytes16 s.census.heard), (o, [e.state.code]), (o + 2, [byte e.missCount]), (o + 3, [e.lastHeard])]
    ++ match e.contents with
      | none => [(o + 1, [0]), (o + 4, List.replicate 41 0)]
      | some n => [(o + 1, [byte n.status.code.toNat]), (o + 4, n.bytes)]

/-- Page 2: the standing record, the own grants in queue order, and the grants. -/
def State.fields2 (s : State) : List (Nat × List Byte) :=
  let r := s.alloc.standing
  let own := (List.finRange 12).map fun q => stationGrant s.plan r s.own (queueTarget q) (queueClass q)
  [(0, [r.origin.code]), (1, [s.alloc.settle.code]), (2, [byte s.alloc.voidCount]), (3, bytes32 r.digest),
   (7, bytes16 r.members), (9, bytes16 r.guests), (11, [byte r.pressure.toNat]), (12, r.admin.percents.toList.map byte),
   (16, bytes16 r.admin.evicted), (18, r.capacities.toList.flatMap nat16), (26, own.flatMap nat16),
   (50, nat16 r.grants.length), (52, r.grants.flatMap nat16)]

/-- Page 3: the record of a queue. -/
def State.queueFields (s : State) (q : Fin 12) : List (Nat × List Byte) :=
  let o := 18 * q.val
  let held := s.store.queues[q]
  [(o, nat16 s.settings.queueLimits[q]), (o + 2, nat16 held.length), (o + 4, nat16 (held.map (·.cells)).sum),
   (o + 6, nat16 s.store.arrivals[q]), (o + 8, nat16 s.store.previous[q]),
   (o + 10, match held with
     | [] => [0, 0, 0, 0]
     | d :: _ => bytes16 d.tag ++ [byte d.cells, byte d.age]),
   (o + 14, bytes32 (BitVec.ofInt 32 s.meter.credits[q]))]

/-- Page 3: the store and the meter; halt and pacer running are 1 or 0 (notes/assumptions/27.md). -/
def State.fields3 (s : State) : List (Nat × List Byte) :=
  [(216, nat16 s.store.heldCount), (218, nat16 (512 - s.store.heldCount)), (220, s.settings.banks.toList.flatMap nat16),
   (226, [byte s.settings.ring.length]), (227, [byte s.meter.position]), (228, [boolByte s.meter.halt]),
   (229, [boolByte s.meter.running]), (230, nat16 s.settings.stepInterval)]

/-- Page 3: a ring slot, as target in bits 7 and 6, class in bits 5 and 4, skip in bit 1, stop in bit 0, and 0 in
bits 3 and 2 (notes/assumptions/26.md); 0 beyond the ring. -/
def State.slotField (s : State) (i : Nat) : Nat × List Byte :=
  (232 + i, [match s.settings.ring[i]? with
    | none => 0
    | some r => byte (64 * r.target.val + 16 * r.cls.index.val + 2 * r.skip.toNat + r.stop.toNat)])

/-- A capture record: valid as 1 (notes/assumptions/27.md), kind, count and its eleven bytes of fields; zeros while it is
cleared. -/
def captureField (o : Nat) (first : Option (Byte × List Byte)) (count : Nat) : Nat × List Byte :=
  (o, match first with
    | none => List.replicate 14 0
    | some (kind, fields) => 1 :: kind :: byte count :: fields ++ List.replicate (11 - fields.length) 0)

/-- The byte of a place. -/
def placeCode : Place → Byte
  | .slot k => byte k.toNat
  | .directiveWindow => 16

/-- The kind and the fields of a Bus capture event. -/
def busFields : BusEvent → Byte × List Byte
  | .readback place bitTime seq => (1, placeCode place :: nat16 bitTime ++ [seq])
  | .check place seq => (2, [placeCode place, 0, 0, seq])
  | .length place seq => (3, [placeCode place, 0, 0, seq])
  | .syncLow seq => (4, [seq])
  | .syncHigh seq => (5, [seq])
  | .vetoLow seq => (6, [seq])
  | .sdatLow slot seq => (7, [byte slot.toNat, seq])

/-- The kind and the fields of a Config capture event. -/
def configFields : ConfigEvent → Byte × List Byte
  | .corrected g => (1, nat16 g)
  | .ecc g => (2, nat16 g)
  | .digest sec => (3, [match sec with | .header => 1 | .plan => 2 | .localSection => 3])
  | .range sec o => (4, (match sec with | .header => 1 | .plan => 2 | .localSection => 3) :: nat16 o)
  | .noLocal k => (5, [byte k.toNat])

/-- Page 4: the four captures and the correction count. -/
def State.fields4 (s : State) : List (Nat × List Byte) :=
  [captureField 0 (s.mgmt.bus.first.map busFields) s.mgmt.bus.count,
   captureField 14 (s.mgmt.agreement.first.map fun e =>
     (1, e.seq :: bytes32 e.own ++ bytes32 e.majority ++ [byte e.groupSize, byte e.participants])) s.mgmt.agreement.count,
   captureField 28 (s.mgmt.directive.first.map fun e =>
     (1, [byte e.frame.sender.toNat, e.frame.seq, e.frame.kind.code] ++ bytes16 e.frame.operand ++ [e.seq]))
     s.mgmt.directive.count,
   captureField 42 (s.mgmt.config.first.map configFields) s.mgmt.config.count, (56, [byte s.loader.corrections])]

/-- Page 5: the counters in the order of R170. -/
def State.fields5 (s : State) : List (Nat × List Byte) :=
  let c := s.mgmt.counters
  [(0, nat32 c.offersTaken), (4, nat32 c.offersRefused), (8, nat32 c.releases), (12, nat32 c.recalls), (16, nat32 c.expiries),
   (20, nat32 c.trueMarks), (24, nat32 c.voidEpochs), (28, nat32 c.cutEpochs), (32, nat32 c.badFrames),
   (36, nat32 c.ignoredDirectives), (40, nat32 c.ignoredReports)]

/-- Page 6: the monitor of a target; in use is 1 or 0 (notes/assumptions/27.md). -/
def State.fields6 (s : State) (t : Fin 4) : List (Nat × List Byte) :=
  let o := 12 * t.val
  let m := s.monitors[t]
  let th := s.settings.monitors[t]
  [(o, [if t.val < s.plan.targets then 1 else 0]), (o + 1, [m.state.code]), (o + 2, [byte m.highCount]),
   (o + 3, [byte m.lowCount]), (o + 4, [byte m.marks]), (o + 5, nat16 m.lastReading), (o + 7, nat16 th.high),
   (o + 9, nat16 th.low), (o + 11, [byte th.debounce])]

end Sys2Proof.Machine
end

