-- ==== Sys2Proof/Certificates/Slice0/Obligations.lean ====
section
/-! DEFINITION. The statements for the provers, from the numbered rules of the spec, chapter by chapter. -/

open Sys2Proof Sys2Proof.Machine

/-! ### Steps, the queue and time -/

/-- A step takes the command at the front of the queue and runs it on the state with the queue's rest. The command itself
puts nothing into the queue and takes nothing from it, the resets included (notes/assumptions/6.md). -/
def Obligations.StepTakesTheFrontCommand : Prop :=
  (∀ (c : Instr) (rest : List Instr) (s : State), s.pending = c :: rest → step s = exec c { s with pending := rest })
  ∧ ∀ (c : Instr) (s : State), ∃ t, exec c s = .next t ∧ t.pending = s.pending

/-- Time (the model's choice, notes/assumptions/5.md): with no command waiting, a step lets one bit time pass. As bit times
pass, a running timer rises to E_len at most, the time since a running pacer's last step rises with them, and nothing else
changes but the phase that time ends (R21, R22, R24, R154). A command that stands at an offset brings a running timer to
it. -/
def Obligations.AnIdleStepLetsOneBitTimePass : Prop :=
  (∀ s : State, s.pending = [] → step s = .next (s.passTime 1))
  ∧ (∀ (d : Nat) (s : State), SbiInv s →
    s.passTime d = { s with
      sbi := if s.sbi.running then
          { s.sbi with timer := min (s.sbi.timer + d) (100 * s.plan.epochLength)
                       phase := s.sbi.phase.after (min (s.sbi.timer + d) (100 * s.plan.epochLength)) }
        else s.sbi
      meter := if s.meter.running then { s.meter with sinceStep := s.meter.sinceStep + d } else s.meter })
  ∧ (∀ (p : Phase) (timer : Nat),
      p.after timer = if p = .markGuard ∧ 200 ≤ timer then .slot 0 else if p = .settle ∧ 9600 ≤ timer then .idle else p)
  ∧ ∀ (s : State) (time : Nat), s.sbi.running = true → s.sbi.timer ≤ time → time ≤ 100 * s.plan.epochLength →
      s.advanceTo time = { s with
        sbi := { s.sbi with timer := time, phase := s.sbi.phase.after time }
        meter := if s.meter.running then { s.meter with sinceStep := s.meter.sinceStep + (time - s.sbi.timer) }
          else s.meter }

/-! ### Reset -/

/-- What a power-on reset leaves, block by block: the values the spec gives (R2, R11, R12, R21, R44, R61, R94, R113, R125,
R136, R148, R153, R161, R166, R167, R168, R170). -/
def Obligations.ResetLeavesTheSpecifiedValues : Prop :=
  let r := State.reset
  (r.loader.phase = .header ∧ r.plan = Plan.empty ∧ r.settings = Settings.empty ∧ r.loader.planDigest = 0
    ∧ r.loader.corrections = 0 ∧ r.loader.failurePosition = .none ∧ r.loader.reading = { start := 0, length := 9 }
    ∧ r.loader.cfgSelected = true ∧ r.loader.cfgCommand = [0x03, 0, 0, 0]
    ∧ r.loader.port = [.selectHigh, .selectLow, .send [0x03, 0, 0, 0]])
  ∧ (r.sbi.running = false ∧ r.sbi.timer = 0 ∧ r.sbi.phase = .unaligned ∧ r.sbi.seq = 0 ∧ r.sbi.txBuffer = none
    ∧ r.sbi.clashStreak = 0 ∧ r.sbi.faults.any = false ∧ r.sbi.syncDrive = .released ∧ r.sbi.vetoDrive = false)
  ∧ ((∀ k : StationNo, (r.census.entry k).state = .absent ∧ (r.census.entry k).contents = none
      ∧ (r.census.entry k).missCount = 0 ∧ (r.census.entry k).lastHeard = 0)
    ∧ r.census.heard = 0 ∧ r.census.reasons.any = false ∧ r.census.received = none)
  ∧ (r.alloc.standing.grants = [] ∧ r.alloc.standing.members = 0 ∧ r.alloc.standing.guests = 0
    ∧ r.alloc.standing.pressure = 0 ∧ (∀ t : Fin 4, r.alloc.standing.capacities[t] = 0 ∧ r.admin.percents[t] = 100)
    ∧ r.admin.evicted = 0 ∧ r.alloc.standing.origin = .fallback ∧ r.alloc.standing.digest = 0
    ∧ r.alloc.pending = none ∧ r.alloc.voidCount = 0 ∧ r.alloc.pendingVoid = 0 ∧ r.alloc.settle = .idle
    ∧ r.alloc.handOver = none)
  ∧ (r.ctl.station = .booting ∧ r.ctl.cause = .none ∧ r.ctl.lastReset = .power ∧ r.ctl.streak = 0
    ∧ r.ctl.listenCount = 0 ∧ r.ctl.drainCount = 0 ∧ r.ctl.drainProgress = 0 ∧ r.ctl.drainEpochs = 0
    ∧ r.ctl.queue = [] ∧ r.ctl.nextSeq = 0 ∧ r.ctl.awaiting = false)
  ∧ (∀ t : Fin 4, r.monitors[t].state = .masked ∧ r.monitors[t].highCount = 0 ∧ r.monitors[t].lowCount = 0
      ∧ r.monitors[t].marks = 0 ∧ r.monitors[t].lastReading = 0)
  ∧ (r.store.heldCount = 0 ∧ r.store.history = []
    ∧ ∀ q : Fin 12, r.store.queues[q] = [] ∧ r.store.arrivals[q] = 0 ∧ r.store.previous[q] = 0)
  ∧ ((∀ q : Fin 12, r.meter.credits[q] = 0) ∧ r.meter.position = 0 ∧ r.meter.halt = false ∧ r.meter.running = false)
  ∧ (r.mgmt.transaction = .idle ∧ r.mgmt.response = none ∧ r.mgmt.flags = 0 ∧ r.mgmt.mask = BitVec.allOnes 14
    ∧ r.mgmt.checkMode = .optional
    ∧ r.mgmt.bus.first = none ∧ r.mgmt.agreement.first = none ∧ r.mgmt.directive.first = none
    ∧ r.mgmt.config.first = none ∧ ∀ n ∈ r.mgmt.counters.list, n = 0)

/-- Each of the three resets starts a load from any state: a power-on reset at once, a pin reset when RESET rises (while it
is low, CFG_SEL is high, CFG_CLK is held low and nothing is read), and RESTART as it is taken, its OK then in the response
buffer. At each, CFG_SEL goes high, and low again for the read of the image header; a transaction in
progress at the management port is abandoned, so the end of a write that began before gives no command (R2, R12, R94, R161,
R163, R164). The queue of
commands stays, and the strapped number is kept while RESET is low (the model's choice, notes/assumptions/6.md and 8.md). -/
def Obligations.ResetsStartALoad : Prop :=
  ∀ (straps : StationNo) (s : State),
    (exec (.powerOnReset straps) s = .next { State.reset with
        pending := s.pending, loader := { Loader.reset with strapped := straps } })
    ∧ (exec .pinReset s = .next { State.reset with
        pending := s.pending
        loader := { Loader.reset with strapped := s.own, cfgSelected := false, cfgCommand := [], port := [.selectHigh] }
        ctl := { Control.reset with lastReset := .pin }
        resetLow := true })
    ∧ (s.resetLow = true → s.cfgClockHeldLow = true ∧ ∀ g : BitVec 72, exec (.granuleRead g) s = .next s)
    ∧ (s.resetLow = true → exec (.pinResetRelease straps) s = .next { State.reset with
        pending := s.pending, loader := { Loader.reset with strapped := straps }
        ctl := { Control.reset with lastReset := .pin } })
    ∧ (s.resetLow = false → exec (.restart straps (checkedFrame s .restart [])) s = .next { State.reset with
        pending := s.pending, loader := { Loader.reset with strapped := straps }
        ctl := { Control.reset with lastReset := .command }
        mgmt := { Mgmt.reset with response := some { status := .ok, data := [] } } })
    ∧ ∀ (sync : Level) (offByte : Bool) (bytes : List Byte) (t : State), s.resetLow = false →
      (∃ c ∈ [Instr.powerOnReset straps, .pinReset, .restart straps (checkedFrame s .restart [])], exec c s = .next t) →
      t.mgmt.transaction = .idle ∧ bytes.foldl State.portByte t = t ∧ t.portAcknowledges = false
        ∧ t.portEnd straps sync offByte = t

/-! ### The load -/

/-- A granule stored with its check byte is taken as read; with any one of its 72 bits inverted it is corrected to the
same, counted, flagged and recorded, and the load goes on as from the clean granule, at the end of a section too (R3,
R176). -/
def Obligations.OneWrongBitOfAGranuleIsCorrected : Prop :=
  (∀ (d : BitVec 64) (s : State), s.loader.phase ≠ .idle → s.resetLow = false →
    s.loader.data.length + 8 ≠ 8 * s.loader.reading.length →
    exec (.granuleRead (encodeGranule d)) s = .next { s with
      loader := { s.loader with data := s.loader.data ++ granuleBytes d } })
  ∧ ∀ (d : BitVec 64) (i : Fin 72) (s : State), s.loader.phase ≠ .idle → s.resetLow = false →
    exec (.granuleRead (encodeGranule d ^^^ ((1 : BitVec 72) <<< i.val))) s = exec (.granuleRead (encodeGranule d)) { s with
      loader := { s.loader with corrections := min (s.loader.corrections + 1) 15 }
      mgmt := { s.mgmt with flags := s.mgmt.flags ||| eventBit .cfgFix
                            config := s.mgmt.config.record (.corrected s.loader.granule) } }

/-- A granule with any two of its 72 bits inverted ends the load: Failsafe with cause ECC, at that granule (R3, R17,
R176). -/
def Obligations.TwoWrongBitsOfAGranuleEndTheLoad : Prop :=
  ∀ (d : BitVec 64) (i j : Fin 72) (s : State), i ≠ j → RestInv s → s.loader.phase ≠ .idle → s.resetLow = false →
    exec (.granuleRead (encodeGranule d ^^^ ((1 : BitVec 72) <<< i.val) ^^^ ((1 : BitVec 72) <<< j.val))) s =
      .next (s.loadFailed .ecc (.granule s.loader.granule) (.ecc s.loader.granule))

/-- The header is checked in the order of R13 when its last granule has been read: identity, plan entry, the presence of
the own local section, its entry. When all pass, the read ends, CFG_SEL going high, and that of the plan section begins at
its first granule (R1, R2, R13). -/
def Obligations.HeaderIsCheckedInOrder : Prop :=
  ∀ (g : BitVec 72) (d : List Byte) (s : State), RestInv s → s.loader.phase = .header → s.lastGranule g d →
    let o := 8 + 4 * s.own.toNat
    let command := [0x03, byte (9 * nat16At d 4 / 65536), byte (9 * nat16At d 4 / 256), byte (9 * nat16At d 4)]
    let placed (o : Nat) : Prop := 9 ≤ nat16At d o ∧ nat16At d o + nat16At d (o + 2) ≤ 65536
    (word32At d 0 ≠ 0x73161A0C →
      exec (.granuleRead g) s = .next (s.loadFailed .range (.field .header 0) (.range .header 0)))
    ∧ (word32At d 0 = 0x73161A0C → ¬ (3 ≤ nat16At d 6 ∧ placed 4) →
      exec (.granuleRead g) s = .next (s.loadFailed .range (.field .header 4) (.range .header 4)))
    ∧ (word32At d 0 = 0x73161A0C → 3 ≤ nat16At d 6 → placed 4 → nat16At d (o + 2) = 0 →
      exec (.granuleRead g) s = .next (s.loadFailed .noLocal (.station s.own) (.noLocal s.own)))
    ∧ (word32At d 0 = 0x73161A0C → 3 ≤ nat16At d 6 → placed 4 → nat16At d (o + 2) ≠ 0 →
      ¬ (24 ≤ nat16At d (o + 2) ∧ placed o) →
      exec (.granuleRead g) s = .next (s.loadFailed .range (.field .header o) (.range .header o)))
    ∧ (word32At d 0 = 0x73161A0C → 3 ≤ nat16At d 6 → placed 4 → 24 ≤ nat16At d (o + 2) → placed o →
      exec (.granuleRead g) s = .next { s with
        loader := { s.loader with
          phase := .plan, data := [], reading := { start := nat16At d 4, length := nat16At d 6 }
          localEntry := { start := nat16At d o, length := nat16At d (o + 2) }, cfgSelected := true
          cfgCommand := command, port := s.loader.port ++ [.selectHigh, .selectLow, .send command] } })

/-- The plan section read whole: its digest first, held as the plan digest once it matches; then its fields, of which
the first out of range ends the load; then the read ends and that of the own local section begins (R2, R7, R14, R15, R17).
Which field is the first, and what the section holds, is said with the ranges. -/
def Obligations.PlanSectionIsVerifiedThenValidated : Prop :=
  ∀ (g : BitVec 72) (d : List Byte) (s : State), RestInv s → s.loader.phase = .plan → s.lastGranule g d →
    let computed := digestOf (d.take (d.length - 4))
    let stored := word32At d (d.length - 4)
    let verified : State := { s with loader := { s.loader with planDigest := stored } }
    let first := s.loader.localEntry.start
    let command := [0x03, byte (9 * first / 65536), byte (9 * first / 256), byte (9 * first)]
    (computed ≠ stored →
      exec (.granuleRead g) s = .next (s.loadFailed .digest (.field .plan 0) (.digest .plan)))
    ∧ (∀ o, computed = stored → firstFailure (planChecks d) = some o →
      exec (.granuleRead g) s = .next (verified.loadFailed .range (.field .plan o) (.range .plan o)))
    ∧ (computed = stored → firstFailure (planChecks d) = none →
      exec (.granuleRead g) s = .next { verified with
        loader := { verified.loader with
          phase := .localPhase, data := [], reading := s.loader.localEntry, stagedPlan := planOf d, cfgSelected := true
          cfgCommand := command, port := s.loader.port ++ [.selectHigh, .selectLow, .send command] } })

/-- Sections whose fields all pass hold a plan and settings within every range of R4 to R9, each field read from its bytes
(R176). The failure reported is that of the first field out of range in the order of the section, and the tier-end rule
comes last, target by target (R14, R15). -/
def Obligations.AcceptedSectionsAreWithinTheirRanges : Prop :=
  (∀ (d : List Byte) (o : Nat), nat8At d o = (d.getD o 0).toNat ∧ nat16At d o = 256 * nat8At d o + nat8At d (o + 1))
  ∧ (∀ (d : List Byte) (o : Nat), firstFailure (planChecks d) = some o ↔
      (planFieldOut d o ∧ ∀ o' < o, ¬ planFieldOut d o')
        ∨ ((∀ o', ¬ planFieldOut d o') ∧ ∃ t, tierEndOut d t o ∧ ∀ t' < t, ∀ o', ¬ tierEndOut d t' o'))
  ∧ (∀ (d : List Byte) (strapped : StationNo) (targets o : Nat), firstFailure (localChecks d strapped targets) = some o ↔
      localFieldOut d strapped targets o ∧ ∀ o' < o, ¬ localFieldOut d strapped targets o')
  ∧ (∀ d : List Byte, firstFailure (planChecks d) = none →
      let p := planOf d
      p.valid ∧ p.epochLength = nat16At d 0 ∧ p.targets = nat8At d 2
        ∧ (∀ t : Fin 4, p.capacity[t] = nat16At d (3 + 2 * t.val) ∧ p.pressedPercent[t] = nat8At d (11 + t.val))
        ∧ p.listenEpochs = nat8At d 15 ∧ p.missLimit = nat8At d 16 ∧ p.voidLimit = nat8At d 17
        ∧ p.entries.length = nat8At d 18
        ∧ ∀ (n : Nat) (e : PlanEntry), p.entries[n]? = some e →
          let o := 19 + 10 * n
          (e.station = none ↔ nat8At d o = 255) ∧ (∀ k, e.station = some k → k.toNat = nat8At d o)
            ∧ e.target.val = nat8At d (o + 1) ∧ e.cls.index.val = nat8At d (o + 2) ∧ e.weight = nat8At d (o + 3)
            ∧ e.floor = nat16At d (o + 4) ∧ e.ceiling = nat16At d (o + 6)
            ∧ e.reserve.toNat = nat8At d (o + 8) ∧ e.tierEnd.toNat = nat8At d (o + 9))
  ∧ ∀ (d : List Byte) (strapped : StationNo) (targets : Nat),
      firstFailure (localChecks d strapped targets) = none →
      let l := settingsOf d
      nat8At d 0 = strapped.toNat ∧ l.valid targets ∧ l.eventMask.toNat = nat16At d 1 % 16384
        ∧ l.checkMode.code.toNat = nat8At d 3 ∧ l.ageLimit = nat8At d 4
        ∧ (∀ q : Fin 12, l.queueLimits[q] = nat16At d (5 + 2 * q.val))
        ∧ (∀ c : Fin 3, l.banks[c] = nat16At d (29 + 2 * c.val)) ∧ l.ring.length = nat8At d 35
        ∧ (∀ (i : Nat) (r : RingSlot), l.ring[i]? = some r →
          let o := 36 + 4 * i
          (targets ≤ 4 → r.target.val = nat8At d o) ∧ r.cls.index.val = nat8At d (o + 1) ∧ r.skip.toNat = nat8At d (o + 2)
            ∧ r.stop.toNat = nat8At d (o + 3))
        ∧ l.stepInterval = nat16At d 164
        ∧ (∀ t : Fin 4, l.monitors[t].high = nat16At d (166 + 5 * t.val) ∧ l.monitors[t].low = nat16At d (168 + 5 * t.val)
          ∧ l.monitors[t].debounce = nat8At d (170 + 5 * t.val))
        ∧ l.drainLimit = nat8At d 186

/-- The own local section read whole: a digest mismatch or a field out of range ends the load; otherwise the plan, the
settings, the event mask and the check mode are published, the standing record is sized to the plan with every grant 0 and
percents of 100, FLUSHED is sent, CFG_SEL goes high, and the station enters Listening with its timer started and its
monitors masked (R2, R10, R14 to R17, R21, R61, R72, R96, R125). -/
def Obligations.LocalSectionEndsTheLoad : Prop :=
  ∀ (g : BitVec 72) (d : List Byte) (s : State), RestInv s → s.loader.phase = .localPhase → s.lastGranule g d →
    let computed := digestOf (d.take (d.length - 4))
    let stored := word32At d (d.length - 4)
    let checks := localChecks d s.own s.loader.stagedPlan.targets
    let places := s.loader.stagedPlan.places.length
    (computed ≠ stored →
      exec (.granuleRead g) s = .next (s.loadFailed .digest (.field .localSection 0) (.digest .localSection)))
    ∧ (∀ o, computed = stored → firstFailure checks = some o →
      exec (.granuleRead g) s = .next (s.loadFailed .range (.field .localSection o) (.range .localSection o)))
    ∧ (computed = stored → firstFailure checks = none →
      exec (.granuleRead g) s = .next { s with
        loader := { s.loader with
          phase := .idle, data := [], stagedPlan := Plan.empty, plan := s.loader.stagedPlan, settings := settingsOf d
          cfgSelected := false, cfgCommand := [], port := s.loader.port ++ [.selectHigh] }
        sbi := { s.sbi with running := true }
        alloc := { s.alloc with standing := { Record.reset with
          grants := List.replicate places 0
          digest := digestOf (List.replicate (2 * places) 0 ++ [100, 100, 100, 100, 0, 0]) } }
        ctl := { s.ctl with station := .listening }
        mgmt := { s.mgmt with mask := (settingsOf d).eventMask, checkMode := (settingsOf d).checkMode }
        sent := s.sent ++ [.flushed] })

/-! ### Marks and stalls -/

/-- The epoch timer at E_len. A state that drives SYNC begins to drive it if it is recessive, leaves it alone if it is
dominant, and SYNC_DRIVE_END releases it; in Quiet and Excluded, and where the timer is stopped, nothing but time happens
(R19, R22). While SYNC is stuck low the expiry is a local mark: the timer restarts, phase position and sequence stay, SYNC
is not driven, the epoch is cut and its void record promoted (R37, R42, R73, R77). That the command brings the timer to
E_len is the model's choice (notes/assumptions/5.md). -/
def Obligations.TimerExpiryDrivesSyncOrMarks : Prop :=
  ∀ (ageingFirst : Bool) (s : State),
    let u := s.advanceTo (100 * s.plan.epochLength)
    (drivesSync s.ctl.station = true → s.sbi.faults.syncLow = false →
      exec (.epochTimerExpiry .recessive ageingFirst) s = .next { u with
        sbi := { u.sbi with syncDrive := .attempting } }
      ∧ exec (.epochTimerExpiry .dominant ageingFirst) s = .next u)
    ∧ (∀ sync : Level, drivesSync s.ctl.station = false →
        exec (.epochTimerExpiry sync ageingFirst) s = .next u)
    ∧ (∀ sync : Level, drivesSync s.ctl.station = true → s.sbi.faults.syncLow = true → s.sbi.phase = .stalled →
      ∃ t, exec (.epochTimerExpiry sync ageingFirst) s = .next t
        ∧ t.sbi.timer = 0 ∧ t.sbi.phase = .stalled ∧ t.sbi.seq = s.sbi.seq ∧ t.sbi.faults = s.sbi.faults
        ∧ (t.sbi.syncDrive = s.sbi.syncDrive ∨ t.sbi.syncDrive = .released)
        ∧ t.alloc = s.cutAlloc
        ∧ t.mgmt.counters.cutEpochs = min (s.mgmt.counters.cutEpochs + 1) 4294967295
        ∧ t.mgmt.counters.trueMarks = s.mgmt.counters.trueMarks
        ∧ t.mgmt.bus = s.mgmt.bus ∧ s.markFrame t)
    ∧ exec .syncDriveEnd s = .next { s with sbi := { s.sbi with syncDrive := .released } }

/-- SYNC still recessive after a drive began: SYNC is released, the SYNC-high fault begins with its event, the phase
position is Stalled, and the expiry is a local mark (R37, R41, R42). That a fault found again while it holds records no
further event is the model's choice (notes/assumptions/12.md), and so is that the timer restarts at the sampling and not at
the expiry 0.1 µs before it (notes/assumptions/28.md). -/
def Obligations.SyncHighFaultIsALocalMark : Prop :=
  ∀ (ageingFirst : Bool) (s : State), s.sbi.syncDrive = .attempting →
    ∃ t, exec (.syncHighFault ageingFirst) s = .next t
      ∧ t.sbi.syncDrive = .released ∧ t.sbi.faults = { s.sbi.faults with syncHigh := true } ∧ t.sbi.phase = .stalled
      ∧ t.sbi.timer = 0 ∧ t.sbi.seq = s.sbi.seq ∧ t.sbi.txBuffer = none ∧ t.sbi.vetoDrive = false
      ∧ (s.sbi.faults.any = false → t.mgmt.flag .line = true)
      ∧ t.mgmt.bus = (if s.sbi.faults.syncHigh then s.mgmt.bus else s.mgmt.bus.record (.syncHigh s.sbi.seq))
      ∧ t.alloc = s.cutAlloc
      ∧ t.mgmt.counters.cutEpochs = min (s.mgmt.counters.cutEpochs + 1) 4294967295
      ∧ t.mgmt.counters.trueMarks = s.mgmt.counters.trueMarks ∧ s.markFrame t

/-- A true mark: timer, sequence, phase position and lines, the SYNC-high fault ended, and the two counters of marks; the
epoch counts as cut before 96.0 µs, or out of Stalled or Suspended, and never out of Unaligned (R23, R37, R42, R43). The epoch
it begins has its veto question and both its windows to come, and holds nothing heard, no veto reason, no received directive,
and no result or adoption of the epoch that ended (R29, R32, R51, R87, R89). A drive of SYNC that was being attempted has made
its mark; an entry to a state that does not drive SYNC releases it (R19, R22, R37). That the mark ends a SYNC-low fault too is
the model's choice (notes/assumptions/12.md). -/
def Obligations.TrueMarkRestartsTheEpoch : Prop :=
  ∀ (time : Nat) (ageingFirst : Bool) (s : State), s.markAt time →
    ∃ t, exec (.trueMark time ageingFirst) s = .next t
      ∧ t.atEpochStart ∧ t.sbi.seq = s.sbi.seq + 1 ∧ t.sbi.phase = .markGuard ∧ t.sbi.running = true
      ∧ t.sbi.syncDrive =
          (if t.ctl.station ≠ s.ctl.station ∧ drivesSync t.ctl.station = false then .released
           else if s.sbi.syncDrive = .attempting then .marking else s.sbi.syncDrive)
      ∧ t.sbi.faults = { s.sbi.faults with syncLow := false, syncHigh := false }
      ∧ t.mgmt.counters.trueMarks = min (s.mgmt.counters.trueMarks + 1) 4294967295
      ∧ t.mgmt.counters.cutEpochs =
          (if s.sbi.phase ≠ .unaligned ∧ (s.sbi.phase = .stalled ∨ s.sbi.phase = .suspended ∨ time < 9600) then
            min (s.mgmt.counters.cutEpochs + 1) 4294967295 else min s.mgmt.counters.cutEpochs 4294967295)
      ∧ t.mgmt.bus = s.mgmt.bus ∧ s.markFrame t

/-- A mark that ends an epoch uncut promotes the pending record with its void count, sets FALLBACK at a promotion into that
origin, and completes an awaiting directive; the Directive Queue is emptied only by an entry to Quiet, Fenced or Excluded,
with DIR_DROP for what it still held. A mark out of Unaligned, in Listening, promotes nothing and leaves the queue (R73,
R76, R81, R110, R117). -/
def Obligations.UncutMarkPromotesThePendingRecord : Prop :=
  (∀ (time : Nat) (ageingFirst : Bool) (r : Record) (s : State), s.uncutAt time → s.alloc.settle = .complete →
    s.alloc.pending = some r →
    ∃ t, exec (.trueMark time ageingFirst) s = .next t
      ∧ t.alloc = { s.alloc with
          standing := r, pending := none, voidCount := s.alloc.pendingVoid, settle := .idle, handOver := none }
      ∧ t.mgmt.flag .fallback =
          (s.mgmt.flag .fallback || (r.origin == .fallback && s.alloc.standing.origin != .fallback))
      ∧ t.mgmt.flag .dirDone = (s.mgmt.flag .dirDone || s.ctl.awaiting) ∧ t.ctl.awaiting = false
      ∧ (let queue := if s.ctl.awaiting then s.ctl.queue.tail else s.ctl.queue
         t.ctl.queue = (if s.outAt t then [] else queue)
          ∧ t.mgmt.flag .dirDrop = (s.mgmt.flag .dirDrop || (decide (s.outAt t) && !queue.isEmpty))))
  ∧ ∀ (time : Nat) (ageingFirst : Bool) (s : State), s.markAt time → s.sbi.phase = .unaligned →
    s.ctl.station = .listening →
    ∃ t, exec (.trueMark time ageingFirst) s = .next t ∧ t.alloc = s.alloc ∧ t.ctl = s.ctl
      ∧ t.mgmt.flag .dirDone = s.mgmt.flag .dirDone ∧ t.mgmt.flag .dirDrop = s.mgmt.flag .dirDrop

/-- A mark that cuts the epoch, true or local, discards what is pending and promotes the void record, with FALLBACK at a
promotion into that origin, counts the cut and the void epoch, the latter unless its veto has done so, withdraws the tally's
result, empties what the Census Unit gathered, and lets an awaiting directive wait again; the Directive Queue is emptied only
by an entry to Quiet or Excluded, with DIR_DROP for what it held. A station in Joining, Active, Resync, Fenced, Quiet or
Excluded keeps its state and its streak (R37, R42, R51, R76, R77, R80, R89, R98, R99, R102, R103, R110, R117). That a vetoed
epoch cut before the close of its veto window is counted here is the model's choice (notes/assumptions/14.md). -/
def Obligations.CutMarkPromotesTheVoidRecord : Prop :=
  ∀ (c : Instr) (ageingFirst : Bool) (s : State), s.cutBy c ageingFirst →
    ∃ t, exec c s = .next t
      ∧ t.alloc = s.cutAlloc ∧ t.atEpochStart
      ∧ t.mgmt.flag .fallback =
          (s.mgmt.flag .fallback || (s.voidSuccessor.origin == .fallback && s.alloc.standing.origin != .fallback))
      ∧ t.mgmt.counters.cutEpochs = min (s.mgmt.counters.cutEpochs + 1) 4294967295
      ∧ t.mgmt.counters.voidEpochs =
          (if s.sbi.vetoed ∧ s.alloc.settle = .complete then s.mgmt.counters.voidEpochs
           else min (s.mgmt.counters.voidEpochs + 1) 4294967295)
      ∧ t.ctl.awaiting = false ∧ t.mgmt.flag .dirDone = s.mgmt.flag .dirDone
      ∧ t.ctl.queue = (if s.outAt t then [] else s.ctl.queue)
      ∧ t.mgmt.flag .dirDrop = (s.mgmt.flag .dirDrop || (decide (s.outAt t) && !s.ctl.queue.isEmpty))
      ∧ (s.ctl.station ∈ [.joining, .active, .resync, .fenced, .quiet, .excluded] →
          t.ctl.station = s.ctl.station ∧ t.ctl.streak = s.ctl.streak ∧ t.ctl.queue = s.ctl.queue)

/-- At a mark that ends a clear epoch, a serving station whose number is evicted by the promoted record goes to Fenced: the
flag, every descriptor expired FENCE in queue order (those the ageing of the same mark takes first are expired AGE), the
Directive Queue dropped, with DIR_DROP when a directive that the mark has not completed was in it. A Fenced station whose
number is clear goes to Joining with streak 0. At a mark that ends a vetoed epoch no test is made: no station enters Fenced,
and none leaves it (R102, R103, R109, R110, R145, R146). That a fenced Leaving station keeps its
drain epochs passed, and that an ageing taken first which empties it ends its drain before the test, is the model's choice
(notes/assumptions/16.md). -/
def Obligations.EvictionFencesAndReadmissionRejoins : Prop :=
  (∀ (time : Nat) (ageingFirst : Bool) (r : Record) (s : State), s.uncutAt time → s.sbi.vetoed = false →
    s.alloc.settle = .complete → s.alloc.pending = some r →
    let limit := s.settings.ageLimit
    let expired (reason : ExpiryReason) (ds : List Descriptor) := ds.map fun d => LinkMessage.expired d.tag reason
    let aged := s.store.held.filter fun d => d.age == limit
    let left := s.store.held.filter fun d => d.age != limit
    let emptied := ageingFirst = true ∧ s.ctl.station = .leaving ∧ aged ≠ [] ∧ left = []
    let queue := if s.ctl.awaiting then s.ctl.queue.tail else s.ctl.queue
    let dropped := s.mgmt.flag .dirDrop || !queue.isEmpty
    (releases s.ctl.station = true → holds r.admin.evicted s.own = true → ¬ emptied →
      ∃ t, exec (.trueMark time ageingFirst) s = .next t
        ∧ t.ctl.station = .fenced ∧ t.mgmt.flag .fenced = true ∧ t.store.held = [] ∧ t.ctl.queue = []
        ∧ t.sent = s.sent ++ (if ageingFirst then expired .age aged ++ expired .fence left else expired .fence s.store.held)
        ∧ t.mgmt.counters.expiries = min (s.mgmt.counters.expiries + s.store.heldCount) 4294967295
        ∧ (s.store.held ≠ [] → t.mgmt.flag .expired = true) ∧ t.meter.running = false ∧ t.mgmt.flag .dirDrop = dropped
        ∧ t.ctl.drainCount = s.ctl.drainCount ∧ t.ctl.drainProgress = s.ctl.drainProgress
        ∧ t.ctl.drainEpochs = s.ctl.drainEpochs)
    ∧ (holds r.admin.evicted s.own = true → emptied →
      ∃ t, exec (.trueMark time ageingFirst) s = .next t
        ∧ t.ctl.station = .quiet ∧ t.mgmt.flag .fenced = s.mgmt.flag .fenced ∧ t.store.held = [] ∧ t.ctl.queue = []
        ∧ t.sent = s.sent ++ expired .age s.store.held ∧ t.ctl.drainEpochs = s.ctl.drainEpochs
        ∧ t.mgmt.flag .dirDrop = dropped
        ∧ t.mgmt.counters.expiries = min (s.mgmt.counters.expiries + s.store.heldCount) 4294967295
        ∧ t.mgmt.flag .expired = true)
    ∧ (s.ctl.station = .fenced → holds r.admin.evicted s.own = false →
      ∃ t, exec (.trueMark time ageingFirst) s = .next t
        ∧ t.ctl.station = .joining ∧ t.ctl.streak = 0 ∧ t.mgmt.flag .fenced = s.mgmt.flag .fenced)
    ∧ (s.ctl.station = .fenced → holds r.admin.evicted s.own = true →
      ∃ t, exec (.trueMark time ageingFirst) s = .next t ∧ t.ctl.station = .fenced))
  ∧ ∀ (time : Nat) (ageingFirst : Bool) (s : State), s.uncutAt time → s.sbi.vetoed = true → s.alloc.settle = .complete →
    ∃ t, exec (.trueMark time ageingFirst) s = .next t ∧ t.mgmt.flag .fenced = s.mgmt.flag .fenced
      ∧ (t.ctl.station = .fenced ↔ s.ctl.station = .fenced)

/-- What a confirmed tally result does at the mark of a clear epoch, where the eviction test moves nothing: Minority takes an Active station
to Resync; Match raises the streak of a Joining or Resync station, and a streak of 2 makes it Active; Mismatch clears the
streak; Lone makes it Active; every other result changes nothing. At the entry to Active each monitor's mask ends: a Masked
one is Pressed when its high count has reached the debounce and Clear otherwise, and the same mark then counts against it. At
the mark of a vetoed epoch a Joining, Active or Resync station keeps its state and its streak. In Quiet and Excluded every
mark leaves the Station Controller as it is, but for the directive that waits, whatever result is pending (R98, R99, R100,
R101, R102, R128, R129). -/
def Obligations.ConfirmedResultsMoveTheStation : Prop :=
  (∀ (time : Nat) (ageingFirst : Bool) (r : Record) (s : State), s.uncutAt time → s.sbi.vetoed = false →
    s.alloc.settle = .complete → s.alloc.pending = some r → holds r.admin.evicted s.own = false → s.ctl.streak ≤ 2 →
    let result := s.census.result
    let proving := s.ctl.station = .joining ∨ s.ctl.station = .resync
    (s.ctl.station = .active →
      ∃ t, exec (.trueMark time ageingFirst) s = .next t
        ∧ (result = some .minority → t.ctl.station = .resync ∧ t.ctl.streak = 0)
        ∧ (result ≠ some .minority → t.ctl.station = .active ∧ t.ctl.streak = s.ctl.streak))
    ∧ (proving →
      ∃ t, exec (.trueMark time ageingFirst) s = .next t
        ∧ (result = some .match → s.ctl.streak = 0 → t.ctl.station = s.ctl.station ∧ t.ctl.streak = 1)
        ∧ (result = some .match → 1 ≤ s.ctl.streak → t.ctl.station = .active ∧ t.ctl.streak = 2)
        ∧ (result = some .mismatch → t.ctl.station = s.ctl.station ∧ t.ctl.streak = 0)
        ∧ (result = some .lone → t.ctl.station = .active ∧ t.ctl.streak = s.ctl.streak)
        ∧ (result = none ∨ result = some .agree ∨ result = some .minority →
            t.ctl.station = s.ctl.station ∧ t.ctl.streak = s.ctl.streak)
        ∧ (t.ctl.station = .active → ∀ i : Fin 4, i.val < s.plan.targets → s.monitors[i].state = .masked →
            let m := s.monitors[i]
            t.monitors[i] =
              if 3 ≤ m.marks then { m with state := .stale, highCount := 0, lowCount := 0, marks := 4 }
              else if m.highCount = s.settings.monitors[i].debounce then
                { m with state := .pressed, highCount := 0, lowCount := 0, marks := m.marks + 1 }
              else { m with state := .clear, marks := m.marks + 1 })))
  ∧ (∀ (time : Nat) (ageingFirst : Bool) (s : State), s.uncutAt time → s.sbi.vetoed = true → s.alloc.settle = .complete →
      s.ctl.station = .joining ∨ s.ctl.station = .active ∨ s.ctl.station = .resync →
      ∃ t, exec (.trueMark time ageingFirst) s = .next t
        ∧ t.ctl.station = s.ctl.station ∧ t.ctl.streak = s.ctl.streak)
  ∧ ∀ (time : Nat) (ageingFirst : Bool) (s : State), s.markAt time → s.ctl.station = .quiet ∨ s.ctl.station = .excluded →
      ∃ t, exec (.trueMark time ageingFirst) s = .next t
        ∧ t.ctl = { s.ctl with queue := t.ctl.queue, awaiting := t.ctl.awaiting }
        ∧ t.mgmt.flag .excluded = s.mgmt.flag .excluded ∧ t.mgmt.flag .fenced = s.mgmt.flag .fenced

/-- A mark that ends an epoch in Listening, true or local, raises the listen-epoch count, whether it cuts the epoch or not;
at the plan's listen epochs the plan check decides between Joining and Excluded with cause PLAN. The check passes unless the
heard Active stations of another plan are more, or as many and led by the lowest number (R91, R92, R97, R108). -/
def Obligations.ListeningEndsByThePlanCheck : Prop :=
  (∀ (c : Instr) (ageingFirst : Bool) (s : State), s.endedBy c ageingFirst → s.ctl.station = .listening →
    let count := min (s.ctl.listenCount + 1) 15
    ∃ t, exec c s = .next t ∧ t.ctl.listenCount = count
      ∧ (count ≠ s.plan.listenEpochs → t.ctl.station = .listening ∧ t.ctl.cause = s.ctl.cause)
      ∧ (count = s.plan.listenEpochs → planCheck s.planSplit = true →
          t.ctl.station = .joining ∧ t.ctl.streak = 0 ∧ t.ctl.cause = s.ctl.cause)
      ∧ (count = s.plan.listenEpochs → planCheck s.planSplit = false →
          t.ctl.station = .excluded ∧ t.ctl.cause = .plan ∧ t.mgmt.flag .excluded = true ∧ t.store.held = []))
  ∧ (∀ split : List (StationNo × Bool),
      let equal := (split.filter (·.2)).length
      let unequal := (split.filter fun p => !p.2).length
      (equal < unequal → planCheck split = false) ∧ (unequal < equal → planCheck split = true)
        ∧ (split = [] → planCheck split = true)
        ∧ ∀ p rest, split = p :: rest → equal = unequal → planCheck split = p.2)
  ∧ (∀ s : State, s.planSplit.Pairwise fun p q => p.1.toNat < q.1.toNat)
  ∧ ∀ (s : State) (k : StationNo) (side : Bool), (k, side) ∈ s.planSplit ↔
      holds s.census.heard k = true ∧ ∃ n, (s.census.entry k).contents = some n ∧ n.status = .active
        ∧ side = (n.planDigest == s.loader.planDigest)

/-- At each mark, true or local, each credit counter is reloaded from its leftover, the own grant of the state after the
mark in the record just promoted, and the bank; an entry to a state that drops credit first cuts the leftover to 0 at most.
The halt is lifted, in every state (that a station which does not release loses it at a mark too is the model's choice,
notes/assumptions/24.md). The pacer restarts at position 0 at an entry to a releasing state, stops at an entry to another, and
otherwise runs through the mark. The own grant is the sum over the places that name the station (R60, R149 to R154,
R157). -/
def Obligations.MarkReloadsTheCredit : Prop :=
  (∀ (c : Instr) (ageingFirst : Bool) (s : State), s.markedBy c ageingFirst →
    ∃ t, exec c s = .next t ∧ t.meter.halt = false ∧
      let entered := t.ctl.station ≠ s.ctl.station
      let restarts := entered ∧ releases t.ctl.station = true
      let passed := if s.meter.running then s.markTime c - s.sbi.timer else 0
      t.meter.position = (if restarts then 0 else s.meter.position)
      ∧ t.meter.running = (if entered then releases t.ctl.station else s.meter.running)
      ∧ t.meter.sinceStep = (if restarts then 0 else s.meter.sinceStep + passed)
      ∧ ∀ q : Fin 12,
        let r := t.alloc.standing
        let g := if t.ctl.station = .active ∨ t.ctl.station = .resync ∨ t.ctl.station = .leaving
            ∨ (t.ctl.station = .joining ∧ holds r.guests t.own = true) then
          stationGrant t.plan r t.own (queueTarget q) (queueClass q) else 0
        let leftover := if entered ∧ dropsCredit t.ctl.station = true then min s.meter.credits[q] 0 else s.meter.credits[q]
        let bank : Int := s.settings.banks[queueClass q]
        t.meter.credits[q] =
          if r.admin.percents[queueTarget q] = 0 then min leftover 0
          else if 0 ≤ leftover then min (g + min leftover bank) 65535
          else min (g + leftover) 65535)
  ∧ (∀ st : StationState, dropsCredit st = true ↔ st = .listening ∨ st = .quiet ∨ st = .fenced ∨ st = .excluded)
  ∧ (∀ st : StationState, releases st = true ↔ st = .joining ∨ st = .active ∨ st = .resync ∨ st = .leaving)
  ∧ ∀ (plan : Plan) (r : Record) (k : StationNo) (t : Fin 4) (c : Fin 3), stationGrant plan r k t c =
      min (((r.cells plan).filter fun pg => pg.1.station == k && pg.1.target == t && pg.1.cls.index == c).map (·.2)).sum 65535

/-- At each mark, true or local, the store expires each record at the age limit, in queue order, and ages the others; an
entry to Quiet, Fenced or Excluded at the mark expires what it finds with its own reason, before the ageing or after it, as
the two are taken. The arrival counts shift; each monitor in use, its mask ended first at an entry to Active, counts the
mark and goes to Stale at the fourth (R106, R109, R128, R129, R140, R145, R146). -/
def Obligations.MarkAgesDescriptorsAndMonitors : Prop :=
  ∀ (c : Instr) (ageingFirst : Bool) (s : State), PhaseInv s → s.markedBy c ageingFirst →
    ∃ t, exec c s = .next t ∧
      let limit := s.settings.ageLimit
      let expired (reason : ExpiryReason) (ds : List Descriptor) := ds.map fun d => LinkMessage.expired d.tag reason
      let aged := s.store.held.filter fun d => d.age == limit
      let left := s.store.held.filter fun d => d.age != limit
      let out := s.outAt t
      let reason : ExpiryReason :=
        if t.ctl.station = .fenced then .fence else if t.ctl.station = .excluded then .exclude else .depart
      let byAgeing := s.ctl.station = .leaving ∧ t.ctl.station = .quiet ∧ min (s.ctl.drainEpochs + 1) 255 ≠ s.settings.drainLimit
      let gone := if out then s.store.held else aged
      (¬ out → ∀ q : Fin 12, t.store.queues[q] =
        (s.store.queues[q].filter fun d => d.age != limit).map fun d => { d with age := d.age + 1 })
      ∧ (out → ∀ q : Fin 12, t.store.queues[q] = [])
      ∧ t.sent = s.sent ++ (if ¬ out then expired .age aged
          else if ageingFirst = true ∨ byAgeing then expired .age aged ++ expired reason left
          else expired reason s.store.held)
      ∧ t.store.previous = s.store.arrivals ∧ (∀ q : Fin 12, t.store.arrivals[q] = 0)
      ∧ t.store.history = s.store.history
      ∧ t.mgmt.counters.expiries = min (s.mgmt.counters.expiries + gone.length) 4294967295
      ∧ t.mgmt.flag .expired = (s.mgmt.flag .expired || !gone.isEmpty)
      ∧ (∀ i : Fin 4, t.monitors[i] =
          if i.val < s.plan.targets then
            let m := s.monitors[i]
            let ends := s.ctl.station ≠ .active ∧ t.ctl.station = .active ∧ m.state = .masked
            if 3 ≤ m.marks then { m with marks := 4, state := .stale, highCount := 0, lowCount := 0 }
            else if ends ∧ m.highCount = s.settings.monitors[i].debounce then
              { m with state := .pressed, highCount := 0, lowCount := 0, marks := m.marks + 1 }
            else if ends then { m with state := .clear, marks := m.marks + 1 }
            else { m with marks := m.marks + 1 }
          else s.monitors[i])
      ∧ t.mgmt.flag .stale = (s.mgmt.flag .stale || allTargets.any fun i =>
          decide (i.val < s.plan.targets) && decide (3 ≤ s.monitors[i].marks) && s.monitors[i].state != .stale)

/-- SYNC dominant for more than 10.0 µs: the SYNC-low fault with its event, LINE, the phase position Stalled, and
everything released. SYNC recessive again: the fault ends and the phase position is Suspended (R36, R38, R41). The time
the command stands at is the model's choice (notes/assumptions/5.md), and so is the falling edge as its start where a REJOIN
comes while SYNC is still dominant after it (notes/assumptions/23.md). -/
def Obligations.StallBeginsAndEnds : Prop :=
  (∀ s : State, observes s.ctl.station = true → s.sbi.faults.syncLow = false →
    let u := s.advanceTo 1001
    exec .stall s = .next { u with
      sbi := { u.sbi with faults := { s.sbi.faults with syncLow := true }, phase := .stalled, txBuffer := none
                          readback := .idle, vetoDrive := false }
      mgmt := { s.mgmt with
        flags := if s.sbi.faults.any then s.mgmt.flags else s.mgmt.flags ||| eventBit .line
        bus := s.mgmt.bus.record (.syncLow s.sbi.seq) } })
  ∧ ∀ (time : Nat) (s : State), s.sbi.faults.syncLow = true →
    let u := s.advanceTo time
    exec (.stallEnd time) s = .next { u with
      sbi := { u.sbi with faults := { s.sbi.faults with syncLow := false }, phase := .suspended } }

/-! ### Census slots -/

/-- The own slot of a notice-sending station puts on SDAT the notice composed at its start, from the sources of R57 and
the demands of R58. Any other slot opens with nothing put on SDAT, and so does the own slot in a state that sends no notice
(R25, R26, R57, R58, R131). While the notice is on the line, SDAT is driven at bit time 20 dominant and from bit time 21 by
the 344 bits of its 43 bytes, the most significant of each first, a 0 as dominant; the lead and the tail are recessive, and
so is every bit once nothing is sent or the frame is withdrawn, abandoned, released or whole (R26, R34, R172, R173). The slot's offset reached by the command is the model's choice (notes/assumptions/5.md), and so is
that an own slot opened again leaves what is on the line (notes/assumptions/11.md). -/
def Obligations.OwnSlotSendsTheNoticeOfItsStart : Prop :=
  (∀ (status : NoticeStatus) (s : State), noticeStatus s.ctl.station = some status →
    s.sbi.phase.rank ≤ s.own.toNat + 1 → s.sbi.txBuffer = none →
    let u := s.advanceTo (200 + 400 * s.own.toNat)
    ∃ n : Notice, exec (.censusSlotOpen s.own) s = .next { u with
        sbi := { u.sbi with phase := .slot s.own, txBuffer := some (.notice n), readback := .driving } }
      ∧ n.sender = s.own ∧ n.status = status ∧ n.seq = s.sbi.seq ∧ n.voidCount = BitVec.ofNat 4 s.alloc.voidCount
      ∧ n.planDigest = s.loader.planDigest ∧ n.standingDigest = s.alloc.standing.digest
      ∧ n.evicted = s.alloc.standing.admin.evicted
      ∧ (∀ t : Fin 4, n.percents[t] = BitVec.ofNat 8 s.alloc.standing.admin.percents[t]
          ∧ (n.pressure.getLsbD t.val = true ↔ t.val < s.plan.targets ∧ s.monitors[t].state = .pressed))
      ∧ ∀ q : Fin 12, n.demands[q].toNat =
          min ((s.store.queues[q].map (·.cells)).sum + s.store.previous[q]) 65535)
  ∧ (∀ (slot : StationNo) (s : State), observes s.ctl.station = true → s.sbi.phase.rank ≤ slot.toNat + 1 →
    slot ≠ s.own ∨ noticeStatus s.ctl.station = none ∨ s.sbi.txBuffer ≠ none →
    let u := s.advanceTo (200 + 400 * slot.toNat)
    exec (.censusSlotOpen slot) s = .next { u with sbi := { u.sbi with phase := .slot slot } })
  ∧ (∀ (n : Notice) (b : Sbi), b.txBuffer = some (.notice n) → b.readback = .driving →
      let wire := n.bytes ++ bytes16 (frameCheck (bitsOfBytes n.bytes))
      ∀ bitTime < 400, b.sdatDrive bitTime =
        if bitTime = 20 then .dominant
        else if 21 ≤ bitTime ∧ bitTime ≤ 364
            ∧ (byteAt wire ((bitTime - 21) / 8)).getMsbD ((bitTime - 21) % 8) = false then .dominant
        else .recessive)
  ∧ (∀ n : Notice, n.bytes.length = 41 ∧ fieldsAt n.bytes
      [(0, [byte (16 * n.sender.toNat + n.status.code.toNat)]), (1, [n.seq]),
       (2, [byte (16 * n.voidCount.toNat + n.pressure.toNat)]), (3, bytes32 n.planDigest), (7, bytes32 n.standingDigest),
       (11, n.percents.toList), (15, bytes16 n.evicted), (17, n.demands.toList.flatMap bytes16)])
  ∧ ∀ (b : Sbi) (bitTime : Nat), b.txBuffer = none ∨ b.readback ≠ .driving → b.sdatDrive bitTime = .recessive

/-- A readback mismatch abandons the frame: SDAT released, READBACK, the Bus capture with place and bit time, and an Active
station's veto reason. In a notice this holds at every driven bit; in a directive, outside the key and at a key bit driven
dominant (R30, R34, R53, R169). -/
def Obligations.ReadbackMismatchAbandonsTheFrame : Prop :=
  ∀ (bitTime : Nat) (place : Place) (s : State), s.sbi.readback = .driving → 20 ≤ bitTime →
    ((∃ n k, s.sbi.txBuffer = some (.notice n) ∧ s.sbi.phase = .slot k ∧ place = .slot k ∧ bitTime ≤ 364)
      ∨ (∃ d, s.sbi.txBuffer = some (.directive d) ∧ s.sbi.phase = .directiveWindow ∧ place = .directiveWindow
          ∧ bitTime ≤ 74 ∧ (bitTime < 21 ∨ 26 < bitTime ∨ d.wire.getMsbD (bitTime - 21) = false))) →
    exec (.readbackMismatch bitTime) s = .next { s with
      sbi := { s.sbi with readback := .mismatched }
      census := if s.ctl.station = .active then
        { s.census with reasons := { s.census.reasons with ownAbandoned := true } } else s.census
      mgmt := { s.mgmt with
        flags := s.mgmt.flags ||| eventBit .readback
        bus := s.mgmt.bus.record (.readback place bitTime s.sbi.seq) } }

/-- The close of an own slot in which the station transmitted: a notice sent whole is heard and clears the clash streak; a
mismatch whose lead was recessive raises it, and with another lead leaves it; the second in a row excludes the station with
cause CLASH, its descriptors expired and its directives dropped with their flags (R26, R35, R48, R108 to R110). -/
def Obligations.OwnSlotOutcomes : Prop :=
  ∀ (n : Notice) (samples : BitVec 400) (lineFirst : Bool) (s : State), s.canClose s.own → s.sbi.txBuffer = some (.notice n) →
    samples ≠ 0 → s.ctl.station ≠ .listening →
    let u := s.slotClosed s.own
    let e : PeerEntry := { state := .heard, contents := some n, missCount := 0, lastHeard := s.sbi.seq }
    (s.sbi.readback = .driving ∨ s.sbi.readback = .complete →
      exec (.censusSlotClose s.own samples lineFirst) s = .next { u with
        sbi := { u.sbi with clashStreak := 0 }
        census := { s.census.setEntry s.own e with heard := s.census.heard ||| stationBit s.own, ownSent := true } })
    ∧ (s.sbi.readback = .mismatched → leadRecessive samples = true → s.sbi.clashStreak = 0 →
      exec (.censusSlotClose s.own samples lineFirst) s = .next { u with sbi := { u.sbi with clashStreak := 1 } })
    ∧ (s.sbi.readback = .mismatched → leadRecessive samples = false →
      exec (.censusSlotClose s.own samples lineFirst) s = .next u)
    ∧ (s.sbi.readback = .released → exec (.censusSlotClose s.own samples lineFirst) s = .next u)
    ∧ (s.sbi.readback = .mismatched → leadRecessive samples = true → s.sbi.clashStreak = 1 →
      (noticeStatus s.ctl.station).isSome = true →
      ∃ t, exec (.censusSlotClose s.own samples lineFirst) s = .next t
        ∧ t.ctl.station = .excluded ∧ t.ctl.cause = .clash ∧ t.sbi.clashStreak = 2 ∧ t.mgmt.flag .excluded = true
        ∧ t.store.held = [] ∧ t.ctl.queue = [] ∧ t.meter.running = false ∧ s.exitFrame t
        ∧ t.sent = s.sent ++ s.store.held.map (fun (d : Descriptor) => LinkMessage.expired d.tag .exclude)
        ∧ t.mgmt.counters.expiries = min (s.mgmt.counters.expiries + s.store.heldCount) 4294967295
        ∧ t.mgmt.flag .expired = (s.mgmt.flag .expired || !s.store.held.isEmpty)
        ∧ t.mgmt.flag .dirDrop = (s.mgmt.flag .dirDrop || !s.ctl.queue.isEmpty))

/-- What a station sends, a station hears: the samples of a slot that carry a notice with percents of 100 or less, its
check included, put that notice into the entry of its sender and its number into the heard set. In Listening the first
Active notice gives the own sequence first (R27, R43, R46, R47, R172, R173). -/
def Obligations.ASentNoticeIsHeardAsItWasSent : Prop :=
  ∀ (n : Notice) (lineFirst : Bool) (s : State), s.canClose n.sender → s.sbi.txBuffer = none →
    (∀ t : Fin 4, n.percents[t].toNat ≤ 100) →
    let u := s.slotClosed n.sender
    let adopts : Bool := s.ctl.station == .listening && n.status == .active && !s.census.activeHeard
    let seq : Seq := if adopts then n.seq else s.sbi.seq
    let e : PeerEntry := { state := .heard, contents := some n, missCount := 0, lastHeard := seq }
    exec (.censusSlotClose n.sender (samplesOf n.bits) lineFirst) s = .next { u with
      sbi := { u.sbi with seq := seq }
      census := { s.census.setEntry n.sender e with
        heard := s.census.heard ||| stationBit n.sender, activeHeard := s.census.activeHeard || adopts } }

/-- A slot that brings no notice leaves the heard set as it is. Silent: a serving peer becomes Held, or Absent at the miss
limit, a peer of another status Absent at once, an Absent one stays (R49). Bad: the Peer Table stays, a bad frame is
counted, its Bus capture event recorded, and an Active station gets a veto reason; the kind is LENGTH when the samples are
no frame, and CHECK when the notice they carry is not valid. A notice is not valid when its check is wrong, its sender is
not the slot's number, its status is none of the five, or a percent is above 100 (R27, R46, R50, R53, R169, R173). -/
def Obligations.SlotsWithoutANotice : Prop :=
  (∀ (slot : StationNo) (lineFirst : Bool) (s : State), s.canClose slot → s.sbi.txBuffer = none →
    let e := s.census.entry slot
    let serving := e.status = some .active ∨ e.status = some .leaving
    let e' : PeerEntry :=
      if e.state = .absent then e
      else if e.state = .heard ∧ ¬ serving then { e with state := .absent }
      else if e.missCount + 1 = s.plan.missLimit then { e with state := .absent, missCount := 0 }
      else { e with state := .held, missCount := e.missCount + 1 }
    let bad (event : BusEvent) : State := { s.slotClosed slot with
      census := if s.ctl.station = .active then
        { s.census with reasons := { s.census.reasons with badSlot := true } } else s.census
      mgmt := { s.mgmt with
        bus := s.mgmt.bus.record event
        counters := { s.mgmt.counters with badFrames := min (s.mgmt.counters.badFrames + 1) 4294967295 } } }
    exec (.censusSlotClose slot (BitVec.allOnes 400) lineFirst) s = .next { s.slotClosed slot with
      census := s.census.setEntry slot e' }
    ∧ ∀ samples : BitVec 400, samples ≠ 0 → samples ≠ BitVec.allOnes 400 →
      let framed := (∀ i, i < 20 ∨ (365 ≤ i ∧ i < 400) → samples.getMsbD i = true) ∧ samples.getMsbD 20 = false
      (¬ framed →
        exec (.censusSlotClose slot samples lineFirst) s = .next (bad (.length (.slot slot) s.sbi.seq)))
      ∧ (framed → validNotice slot (noticeBytes (samples.extractLsb' 35 344)) = none →
        exec (.censusSlotClose slot samples lineFirst) s = .next (bad (.check (.slot slot) s.sbi.seq))))
  ∧ ∀ (slot : StationNo) (b : List Byte), validNotice slot b = none ↔
      frameCheck (bitsOfBytes (b.take 41)) ≠ word16At b 41 ∨ nat8At b 0 / 16 ≠ slot.toNat
        ∨ ¬ (1 ≤ nat8At b 0 % 16 ∧ nat8At b 0 % 16 ≤ 5) ∨ ∃ t : Fin 4, 100 < nat8At b (11 + t.val)

/-- A slot sampled dominant throughout begins the SDAT-low fault and is a bad slot; of its two Bus capture events either may
come first (R27, R40, R41, R50). In the own slot, in which the station transmitted and abandoned its notice, the fault
begins likewise, the clash streak stays and there is no bad slot (R26, R27, R35, R40). That a fault which holds already
records no further event is the model's choice (notes/assumptions/12.md). A recessive sample of SDAT in a slot or the
directive window ends the fault (R40). -/
def Obligations.SdatLowBeginsAndEnds : Prop :=
  (∀ (slot : StationNo) (lineFirst : Bool) (s : State), s.canClose slot →
    let u := s.slotClosed slot
    let low : BusEvent := .sdatLow slot s.sbi.seq
    let length : BusEvent := .length (.slot slot) s.sbi.seq
    let faulty : Sbi := { u.sbi with faults := { s.sbi.faults with sdatLow := true } }
    let flags := if s.sbi.faults.any then s.mgmt.flags else s.mgmt.flags ||| eventBit .line
    (s.sbi.txBuffer = none →
      exec (.censusSlotClose slot 0 lineFirst) s = .next { u with
        sbi := faulty
        census := if s.ctl.station = .active then
          { s.census with reasons := { s.census.reasons with badSlot := true } } else s.census
        mgmt := { s.mgmt with
          flags := flags
          bus := if s.sbi.faults.sdatLow then s.mgmt.bus.record length
            else if lineFirst then (s.mgmt.bus.record low).record length else (s.mgmt.bus.record length).record low
          counters := { s.mgmt.counters with badFrames := min (s.mgmt.counters.badFrames + 1) 4294967295 } } })
    ∧ ∀ n, slot = s.own → s.sbi.txBuffer = some (.notice n) → s.sbi.readback ≠ .driving → s.sbi.readback ≠ .complete →
      exec (.censusSlotClose slot 0 lineFirst) s = .next { u with
        sbi := faulty
        mgmt := { s.mgmt with
          flags := flags, bus := if s.sbi.faults.sdatLow then s.mgmt.bus else s.mgmt.bus.record low } })
  ∧ ∀ (time : Nat) (s : State), observes s.ctl.station = true →
    let u := s.advanceTo time
    (u.sbi.phase = .directiveWindow ∨ ∃ k, u.sbi.phase = .slot k) →
    exec (.sdatLowClear time) s = .next { u with
      sbi := { u.sbi with faults := { s.sbi.faults with sdatLow := false } } }

/-! ### The directive window and the veto window -/

/-- An Active station contends with the directive at the head of its queue; any other station, and an empty queue, sends
nothing. While its frame is on the line, SDAT is driven at bit time 20 dominant and from bit time 21 by the 54 frame bits,
priority and sender first, a 0 as dominant, and is recessive in the lead and the tail. Dominant read on a key bit driven
recessive withdraws it, and SDAT is released for the rest of the window (R29, R30, R172, R173); that it does so when it is reported as a
readback mismatch is the model's choice (notes/assumptions/20.md). -/
def Obligations.ContendersSendTheHeadAndWithdraw : Prop :=
  (∀ s : State, observes s.ctl.station = true → s.sbi.phase.rank ≤ 17 → s.sbi.windowClosed = false →
    (∀ d, s.sbi.txBuffer ≠ some (.directive d)) →
    let u := s.advanceTo 6600
    (∀ d rest, s.ctl.station = .active → s.ctl.queue = d :: rest →
      exec .directiveWindowOpen s = .next { u with
        sbi := { u.sbi with phase := .directiveWindow, txBuffer := some (.directive d.frame), readback := .driving } })
    ∧ (s.ctl.station ≠ .active ∨ s.ctl.queue = [] →
      exec .directiveWindowOpen s = .next { u with
        sbi := { u.sbi with phase := .directiveWindow, txBuffer := none, readback := .idle } }))
  ∧ (∀ (d : DirectiveFrame) (b : Sbi), b.txBuffer = some (.directive d) → b.readback = .driving →
      let fields : BitVec 38 := d.priority ++ d.sender ++ d.seq ++ d.kind.code ++ d.operand
      let wire : BitVec 54 := fields ++ frameCheck (bitsOf fields)
      ∀ bitTime < 400, b.sdatDrive bitTime =
        if bitTime = 20 then .dominant
        else if 21 ≤ bitTime ∧ bitTime ≤ 74 ∧ wire.getMsbD (bitTime - 21) = false then .dominant
        else .recessive)
  ∧ ∀ (bitTime : Nat) (d : DirectiveFrame) (s : State), s.sbi.phase = .directiveWindow →
    s.sbi.txBuffer = some (.directive d) → s.sbi.readback = .driving → 21 ≤ bitTime → bitTime ≤ 26 →
    d.wire.getMsbD (bitTime - 21) = true →
    let t : State := { s with sbi := { s.sbi with readback := .withdrawn } }
    exec (.arbitrationWithdraw bitTime) s = .next t ∧ exec (.readbackMismatch bitTime) s = .next t
    ∧ ∀ later, t.sbi.sdatDrive later = .recessive

/-- A directive sent whole is the epoch's received directive of its own sender: the head waits for the epoch's fate, its
send count a step higher, whether the veto window has opened at that instant or not. A head that a state change has dropped
since waits for nothing (R30, R52, R53, R110, R116). -/
def Obligations.ASentDirectiveAwaitsItsEpoch : Prop :=
  ∀ (f : DirectiveFrame) (samples : BitVec 400) (s : State), observes s.ctl.station = true →
    s.sbi.phase.rank ≤ 18 → s.sbi.windowClosed = false → s.sbi.txBuffer = some (.directive f) →
    s.sbi.readback = .driving ∨ s.sbi.readback = .complete →
    let u := s.advanceTo 7000
    let closed (c : Control) : State := { u with
      sbi := { u.sbi with
        faults := { s.sbi.faults with sdatLow := s.sbi.faults.sdatLow && samples == 0 }
        txBuffer := none, readback := .idle, phase := .vetoWindow, windowClosed := true }
      ctl := c, census := { s.census with received := some f } }
    (∀ d rest, s.ctl.queue = d :: rest → exec (.directiveWindowClose samples) s = .next (closed
      { s.ctl with awaiting := true, queue := { d with sendCount := min (d.sendCount + 1) 255 } :: rest }))
    ∧ (s.ctl.queue = [] → exec (.directiveWindowClose samples) s = .next (closed s.ctl))

/-- What a station sends in the window, a receiver receives, a contender that has withdrawn among them: the samples that
carry a Directive Frame with its check leave that frame as the epoch's received directive, and a silent window leaves none.
A bad frame is counted and recorded, and an Active station gets a veto reason: of kind LENGTH when the samples are no frame,
of kind CHECK when the check is wrong or the kind is none of the three. A contender that abandoned its own frame takes the
window as no frame. None of these touches the Directive Queue (R30, R31, R52, R53, R116, R169, R172, R173). -/
def Obligations.ADirectiveIsReceivedAsItWasSent : Prop :=
  (∀ (samples : BitVec 400) (s : State), observes s.ctl.station = true → s.sbi.phase.rank ≤ 18 →
    s.sbi.windowClosed = false →
    let u := s.advanceTo 7000
    let closed : State := { u with
      sbi := { u.sbi with
        faults := { s.sbi.faults with sdatLow := s.sbi.faults.sdatLow && samples == 0 }
        txBuffer := none, readback := .idle, phase := .vetoWindow, windowClosed := true } }
    let bad (event : BusEvent) : State := { closed with
      census := if s.ctl.station = .active then
        { s.census with reasons := { s.census.reasons with badDirective := true } } else s.census
      mgmt := { s.mgmt with
        bus := s.mgmt.bus.record event
        counters := { s.mgmt.counters with badFrames := min (s.mgmt.counters.badFrames + 1) 4294967295 } } }
    let run := exec (.directiveWindowClose samples) s
    let receives := (∀ f, s.sbi.txBuffer ≠ some (.directive f)) ∨ s.sbi.readback = .withdrawn
    let framed := (∀ i, i < 20 ∨ (75 ≤ i ∧ i < 400) → samples.getMsbD i = true) ∧ samples.getMsbD 20 = false
    (∀ d : DirectiveFrame, receives → samples = samplesOf (bitsOf d.wire) →
      run = .next { closed with census := { s.census with received := some d } })
    ∧ (receives → samples = BitVec.allOnes 400 → run = .next closed)
    ∧ (receives → samples ≠ BitVec.allOnes 400 → ¬ framed → run = .next (bad (.length .directiveWindow s.sbi.seq)))
    ∧ (receives → framed → validDirective (samples.extractLsb' 325 54) = none →
      run = .next (bad (.check .directiveWindow s.sbi.seq)))
    ∧ ∀ f, s.sbi.txBuffer = some (.directive f) → s.sbi.readback = .mismatched ∨ s.sbi.readback = .released →
      run = .next (bad (.length .directiveWindow s.sbi.seq)))
  ∧ ∀ x : BitVec 54, validDirective x = none ↔ frameCheck (bitsOf (x.extractLsb' 16 38)) ≠ x.extractLsb' 0 16
      ∨ ¬ (1 ≤ (x.extractLsb' 32 8).toNat ∧ (x.extractLsb' 32 8).toNat ≤ 3)

/-- VETO is driven in the veto window by an Active station that holds a veto reason, and the sample decides the epoch: a
dominant one vetoes it and sets VETOED (R32, R33, R53). -/
def Obligations.VetoIsDrivenAndSampled : Prop :=
  (∀ s : State, observes s.ctl.station = true → s.sbi.phase.rank ≤ 18 → s.sbi.vetoAsked = false →
    let u := s.advanceTo 7000
    let r := s.census.reasons
    exec .vetoWindowOpen s = .next { u with
      sbi := { u.sbi with
        phase := .vetoWindow, vetoAsked := true
        vetoDrive := decide (s.ctl.station = .active) && (r.badSlot || r.badDirective || r.ownAbandoned) } })
  ∧ ∀ s : State, observes s.ctl.station = true → s.sbi.phase = .vetoWindow →
    let u := s.advanceTo 7050
    exec (.vetoSample .dominant) s = .next { u with
      sbi := { u.sbi with vetoed := true }, mgmt := { s.mgmt with flags := s.mgmt.flags ||| eventBit .vetoed } }
    ∧ exec (.vetoSample .recessive) s = .next u

/-- VETO dominant outside the veto window and its margins of ten bit times begins the VETO-low fault, with its event and
LINE; VETO recessive there ends it (R20, R39, R41). The timer brought to the sample's time is the model's choice
(notes/assumptions/5.md), and so is that the watch goes by the timer in Unaligned, Stalled and Suspended too and judges a
bit time by its middle (notes/assumptions/22.md). -/
def Obligations.VetoLowBeginsAndEnds : Prop :=
  ∀ (time : Nat) (s : State), observes s.ctl.station = true → time < 6990 ∨ 7110 ≤ time →
    let u := s.advanceTo time
    (s.sbi.faults.vetoLow = false →
      exec (.vetoLowFault time) s = .next { u with
        sbi := { u.sbi with faults := { s.sbi.faults with vetoLow := true } }
        mgmt := { s.mgmt with
          flags := if s.sbi.faults.any then s.mgmt.flags else s.mgmt.flags ||| eventBit .line
          bus := s.mgmt.bus.record (.vetoLow s.sbi.seq) } })
    ∧ exec (.vetoLowClear time) s = .next { u with
        sbi := { u.sbi with faults := { s.sbi.faults with vetoLow := false } } }

/-! ### The settle and the tally -/

/-- The close of the veto window of a vetoed epoch: the void record is pending at once, the void epoch is counted, and an
awaiting directive goes back to waiting for a window (R62, R75, R76, R80, R81, R117). -/
def Obligations.VetoedEpochIsVoidAtOnce : Prop :=
  ∀ s : State, observes s.ctl.station = true → s.sbi.phase.rank ≤ 18 → s.alloc.settle = .idle → s.sbi.vetoed = true →
    let u := s.advanceTo 7100
    exec .settleStart s = .next { u with
      sbi := { u.sbi with phase := .settle, vetoDrive := false }
      alloc := { s.alloc with pending := some s.voidSuccessor, pendingVoid := s.nextVoidCount, settle := .complete
                              handOver := none }
      ctl := { s.ctl with awaiting := false }
      mgmt := { s.mgmt with counters :=
        { s.mgmt.counters with voidEpochs := min (s.mgmt.counters.voidEpochs + 1) 4294967295 } } }

/-- The close of the veto window of a clear epoch runs the tally: the verdict of an Active or Leaving station, the outcome
of a Joining or Resync one, the adoption of a Listening one, and none in the other states. A Minority verdict sets its
flag and records its capture; a Mismatch adopts sequence and Admin Record from the majority. Then the Census Unit's data is
handed to the settle, which is in flight. The participants are the stations heard this epoch as Active or Leaving with the
own plan digest, in ascending order (R56, R62, R83 to R90). -/
def Obligations.ClearEpochRunsTheTally : Prop :=
  (∀ s : State, observes s.ctl.station = true → s.sbi.phase.rank ≤ 18 → s.alloc.settle = .idle → s.sbi.vetoed = false →
    let u := s.advanceTo 7100
    let handed (c : Census) (seq : Seq) : State := { u with
      sbi := { u.sbi with phase := .settle, vetoDrive := false, seq := seq }
      census := c, alloc := { s.alloc with settle := .inFlight, handOver := some c } }
    let ps := s.participants
    let held (r : TallyResult) : State := handed { s.census with result := some r } s.sbi.seq
    let adopt (n : Notice) (r : Option TallyResult) : State :=
      handed { s.census with adopted := some n.admin, result := r } n.seq
    let v : State := handed s.census s.sbi.seq
    (∀ own k m, (s.ctl.station = .active ∨ s.ctl.station = .leaving) → s.census.ownSent = true →
      (s.census.entry s.own).contents = some own → majority ps = some (k, m) →
      ((∀ p ∈ ps, p.1 = s.own) → exec .settleStart s = .next (held .lone))
      ∧ ((∃ p ∈ ps, p.1 ≠ s.own) → own.pair = m.pair → exec .settleStart s = .next (held .agree))
      ∧ ((∃ p ∈ ps, p.1 ≠ s.own) → own.pair ≠ m.pair →
        exec .settleStart s = .next { held .minority with
          mgmt := { s.mgmt with
            flags := s.mgmt.flags ||| eventBit .minority
            agreement := s.mgmt.agreement.record
              { seq := own.seq, own := own.standingDigest, majority := m.standingDigest
                groupSize := groupSize ps m.pair, participants := ps.length } } }))
    ∧ ((s.ctl.station = .active ∨ s.ctl.station = .leaving) → s.census.ownSent = false →
      exec .settleStart s = .next v)
    ∧ ((s.ctl.station = .joining ∨ s.ctl.station = .resync) →
      (majority ps = none → exec .settleStart s = .next (held .lone))
      ∧ ∀ k m, majority ps = some (k, m) →
        (m.pair = (s.sbi.seq, s.alloc.standing.digest) → exec .settleStart s = .next (held .match))
        ∧ (m.pair ≠ (s.sbi.seq, s.alloc.standing.digest) →
            exec .settleStart s = .next (adopt m (some .mismatch))))
    ∧ (s.ctl.station = .listening →
      (majority ps = none → exec .settleStart s = .next v)
      ∧ ∀ k m, majority ps = some (k, m) → exec .settleStart s = .next (adopt m s.census.result))
    ∧ (s.ctl.station = .quiet ∨ s.ctl.station = .fenced ∨ s.ctl.station = .excluded → exec .settleStart s = .next v))
  ∧ (∀ (s : State) (k : StationNo) (n : Notice), (k, n) ∈ s.participants ↔
      holds s.census.heard k = true ∧ (s.census.entry k).contents = some n
        ∧ (n.status = .active ∨ n.status = .leaving) ∧ n.planDigest = s.loader.planDigest)
  ∧ ∀ s : State, s.participants.Pairwise fun p q => p.1.toNat < q.1.toNat

/-- The majority group: the participants with one pair whose number is largest, and among equals the group that holds the
lowest-numbered participant; none without participants. The model names the group by its lowest-numbered member (R84). -/
def Obligations.MajorityIsTheLargestGroup : Prop :=
  ∀ ps : List (StationNo × Notice), ps.Pairwise (fun p q => p.1.toNat < q.1.toNat) →
    let size (pair : Seq × Digest) := (ps.filter fun p => p.2.pair = pair).length
    (majority ps = none ↔ ps = [])
    ∧ ∀ k m, majority ps = some (k, m) →
      (k, m) ∈ ps ∧ (∀ p ∈ ps, p.2.pair = m.pair → k.toNat ≤ p.1.toNat)
      ∧ ∀ p ∈ ps, size p.2.pair ≤ size m.pair
        ∧ (size p.2.pair = size m.pair → k.toNat ≤ p.1.toNat)

/-- The settle of a clear epoch works on what was handed over at its start: the Admin Record in force or adopted, with the
received directive applied to it unless it is ignored, which is counted and recorded; then the sets against its mask, and
the record computed from them. Until the settle or the epoch ends, nothing that happens alters the allocation: no change of
state, no directive, no descriptor (R56, R62, R63, R65, R66, R87, R120). -/
def Obligations.SettleComputesThePendingRecord : Prop :=
  (∀ (h : Census) (s : State), s.alloc.settle = .inFlight → s.alloc.handOver = some h →
    let p : State := { s with census := h }
    let base := h.adopted.getD s.admin
    let computed (a : Admin) : Alloc := { s.alloc with
      pending := some (computedRecord s.plan (p.memberSet a.evicted) (p.guestSet a.evicted)
        (p.pressureSet (p.memberSet a.evicted)) a p.heardDemand)
      pendingVoid := 0, settle := .complete, handOver := none }
    (h.received = none → exec .settleComplete s = .next { s with alloc := computed base })
    ∧ ∀ d, h.received = some d →
      (∀ t : Fin 4, d.kind = .setPercent → operandTarget d.operand = t.val → t.val < s.plan.targets →
        operandPercent d.operand ≤ 100 →
        exec .settleComplete s = .next { s with
          alloc := computed { base with percents := base.percents.set t (operandPercent d.operand) } })
      ∧ (d.kind = .setPercent → s.plan.targets ≤ operandTarget d.operand ∨ 100 < operandPercent d.operand →
        exec .settleComplete s = .next { s with
          alloc := computed base
          mgmt := { s.mgmt with
            counters := { s.mgmt.counters with
              ignoredDirectives := min (s.mgmt.counters.ignoredDirectives + 1) 4294967295 }
            directive := s.mgmt.directive.record { frame := d, seq := s.sbi.seq } } })
      ∧ (d.kind = .evict →
        exec .settleComplete s = .next { s with alloc := computed { base with evicted := base.evicted ||| d.operand } })
      ∧ (d.kind = .readmit →
        exec .settleComplete s = .next { s with
          alloc := computed { base with evicted := base.evicted &&& ~~~d.operand } }))
  ∧ ∀ (c : Instr) (s t : State), RestInv s → exec c s = .next t → s.alloc.settle ≠ .idle →
      t.alloc.settle = s.alloc.settle → t.alloc = s.alloc

/-- The member and guest sets of a settle, the pressure set of its members and the demands it is handed, number by number
and target by target; the grant places of a plan, with their tiers; and the fields of a computed record and of a Fallback
record, with their capacities and digest (R5, R6, R54, R55, R56, R60, R64, R66, R72, R76). -/
def Obligations.MembersGuestsAndCapacities : Prop :=
  (∀ (s : State) (evicted : StationMask) (k : StationNo),
    let e := s.census.entry k
    let counted := ∃ n, e.contents = some n ∧ n.planDigest = s.loader.planDigest ∧ n.seq = e.lastHeard
      ∧ holds evicted k = false
    (holds (s.memberSet evicted) k = true ↔
      ((holds s.census.heard k = true ∧ (e.status = some .active ∨ e.status = some .leaving)) ∨ e.state = .held)
        ∧ counted)
    ∧ (holds (s.guestSet evicted) k = true ↔
      holds s.census.heard k = true ∧ (e.status = some .joining ∨ e.status = some .resync) ∧ counted)
    ∧ ∀ q : Fin 12, (e.contents = none → s.heardDemand k q = 0)
      ∧ ∀ n, e.contents = some n → s.heardDemand k q = n.demands[q].toNat)
  ∧ (∀ (s : State) (members : StationMask) (t : Fin 4), (s.pressureSet members).getLsbD t.val = true ↔
      t.val < s.plan.targets ∧ ∃ k n, holds members k = true ∧ (s.census.entry k).contents = some n
        ∧ n.pressure.getLsbD t.val = true)
  ∧ (∀ (members guests : StationMask) (k : StationNo), roleIn members guests k =
      if holds members k then .member else if holds guests k then .guest else .inactive)
  ∧ (∀ plan : Plan, plan.places = (List.range plan.entries.length).flatMap fun i =>
      match plan.entries[i]? with
      | none => []
      | some e =>
        let closed := ((plan.entries.take i).filter fun x => x.target == e.target && x.tierEnd).length
        (match e.station with
          | some k => [k]
          | none => [0, 1, 2, 3, 4, 5, 6, 7, 8, 9, 10, 11, 12, 13, 14, 15]).map fun k =>
            { station := k, target := e.target, cls := e.cls, weight := e.weight, floor := e.floor
              ceiling := e.ceiling, reserve := e.reserve, tier := closed })
  ∧ (∀ (plan : Plan) (members guests : StationMask) (pressure : TargetSet) (a : Admin)
      (demand : StationNo → Fin 12 → Nat),
      let r := computedRecord plan members guests pressure a demand
      (∀ t : Fin 4, t.val < plan.targets → r.capacities[t] = plan.capacity[t] * a.percents[t]
          * (if pressure.getLsbD t.val then plan.pressedPercent[t] else 100) / 10000)
        ∧ r.members = members ∧ r.guests = guests ∧ r.pressure = pressure ∧ r.admin = a ∧ r.origin = .computed
        ∧ r.grants = (computeCells plan (roleIn members guests) demand r.capacities).map (·.grant)
        ∧ r.digest = digestOf (r.grants.flatMap nat16 ++ a.percents.toList.map byte ++ bytes16 a.evicted))
  ∧ ∀ (plan : Plan) (r : Record),
      let f := fallbackRecord plan r
      (∀ t : Fin 4, t.val < plan.targets → f.capacities[t] = plan.capacity[t] * r.admin.percents[t]
          * (if r.pressure.getLsbD t.val then plan.pressedPercent[t] else 100) / 10000)
        ∧ f.members = r.members ∧ f.guests = r.guests ∧ f.pressure = r.pressure ∧ f.admin = r.admin
        ∧ f.origin = .fallback ∧ f.grants = (fallbackCells plan (roleIn r.members r.guests) f.capacities).map (·.grant)
        ∧ f.digest = digestOf (f.grants.flatMap nat16 ++ r.admin.percents.toList.map byte ++ bytes16 r.admin.evicted)

/-- No record grants more of a target than its effective capacity, more at a place than its ceiling, or more at a guest's
place than its floor. In a computed record each place wants what its role, its demand less what earlier tiers granted it,
its floor and its ceiling say, and gets no more; a want unmet leaves nothing of the capacity and nothing to later tiers; the
floors of a tier are served in plan order; and where they all are, each place gets at least its weight's share of the rest.
To the cell, the active places of a tier get what the floor step, four share rounds and the residue walk in plan order give
them out of what the earlier tiers left, by their wants. In a Fallback record each place gets its floor in plan order, as far as capacity reaches (R66 to R71, R76). -/
def Obligations.GrantsStayWithinTheirBounds : Prop :=
  ∀ plan : Plan, (∀ e ∈ plan.entries, e.floor ≤ e.ceiling) →
    (∀ (members guests : StationMask) (pressure : TargetSet) (a : Admin) (demand : StationNo → Fin 12 → Nat),
      (computedRecord plan members guests pressure a demand).bounded plan)
    ∧ (∀ r : Record, (fallbackRecord plan r).bounded plan)
    ∧ ∀ (role : StationNo → Role) (demand : StationNo → Fin 12 → Nat) (capacity : Vector Nat 4),
      let granted (cells : List Cell) (p : Cell → Bool) : Nat := ((cells.filter p).map (·.grant)).sum
      let computed := computeCells plan role demand capacity
      let fallback := fallbackCells plan role capacity
      (computed.map (·.place) = plan.places ∧ fallback.map (·.place) = plan.places)
      ∧ (∀ t : Fin 4, t.val < plan.targets →
        (∀ e ∈ (plan.entries.filter fun e => e.target == t).getLast?, e.tierEnd = true) →
        ∀ (i : Nat) (c : Cell), computed[i]? = some c → c.place.target = t →
          let p := c.place
          let atFirst (x : Cell) : Nat := min x.place.floor x.want
          let inTier (x : Cell) : Bool := x.place.target == t && x.place.tier == p.tier
          let earlier := computed.take i
          let before := granted computed fun x => x.place.target == t && decide (x.place.tier < p.tier)
          let rest := capacity[t] - before
          let floors := ((computed.filter inTier).map atFirst).sum
          let weights := ((computed.filter fun x => inTier x && decide (atFirst x < x.want)).map (·.place.weight)).sum
          let already := granted earlier fun x =>
            x.place.station == p.station && x.place.target == t && x.place.cls == p.cls && decide (x.place.tier < p.tier)
          let base := min (demand p.station (queueIndex t p.cls) - already) p.ceiling
          (role p.station = .inactive → c.want = 0)
          ∧ (role p.station = .guest → c.want = min base p.floor)
          ∧ (role p.station = .member → c.want = if p.reserve then max base p.floor else base)
          ∧ c.grant ≤ c.want
          ∧ (c.grant < c.want → (granted computed fun x => x.place.target == t) = capacity[t]
              ∧ ∀ x ∈ computed, x.place.target = t → p.tier < x.place.tier → x.grant = 0)
          ∧ min (atFirst c) (rest - ((earlier.filter inTier).map atFirst).sum) ≤ c.grant
          ∧ (floors ≤ rest → atFirst c + min (c.want - atFirst c) ((rest - floors) * p.weight / weights) ≤ c.grant))
      ∧ (∀ t : Fin 4, t.val < plan.targets → ∀ tier < plan.tierCount t,
          let places := computed.filter fun x =>
            x.place.target == t && x.place.tier == tier && role x.place.station != .inactive
          places.map (·.grant) = tierGrants
            (capacity[t] - granted computed fun x => x.place.target == t && decide (x.place.tier < tier)) places)
      ∧ ∀ t : Fin 4, t.val < plan.targets → ∀ (i : Nat) (c : Cell), fallback[i]? = some c → c.place.target = t →
          c.grant = if role c.place.station = .inactive then 0
            else min c.place.floor (capacity[t] - granted (fallback.take i) fun x => x.place.target == t)

/-! ### The management port -/

/-- A write transaction addressed to the station is judged by the first step of R162 that applies: ignored, or refused with
its status in the response buffer and nothing else changed. A frame to another address, and any frame while RESET is low,
changes nothing. The nine named commands are judged in the same way. A frame without a check byte does in Off and Optional
what it does with the right one, and in Off any check byte does. In a write to the station the port acknowledges the address
byte and each byte after it, and at its end the frame waits as a command; in one to another address, and in one begun while
RESET is low, it acknowledges nothing and none waits (R161, R162, R164). That a READ_VIEW with no page byte is NOT_READY in
Booting is the model's choice (notes/assumptions/10.md), and so is that an UNKNOWN_COMMAND whose bytes are a good frame does
what the named command does (notes/assumptions/19.md) and that an ended frame waits as one (notes/assumptions/21.md). -/
def Obligations.FramesAreRefusedByTheFirstStep : Prop :=
  (∀ (straps : StationNo) (sync : Level) (command length : Byte) (rest : List Byte) (s : State), s.resetLow = false →
    let bytes := writeAddress s.own :: command :: length :: rest
    let run (f : RawFrame) := exec (.unknownCommand straps sync f) s
    let answer (status : Status) : State := { s with mgmt := { s.mgmt with response := some { status := status, data := [] } } }
    let parameters := rest.take length.toNat
    let check := managementCheck (writeAddress s.own :: command :: length :: parameters)
    let unchecked := rest.length = length.toNat
    let checked := rest.length = length.toNat + 1
    let good := (unchecked ∧ s.mgmt.checkMode ≠ .required)
      ∨ (checked ∧ (s.mgmt.checkMode = .off ∨ rest.getLast? = some check))
    let served := s.ctl.station ≠ .booting ∨ command = 0x09 ∨ (command = 0x01 ∧ parameters.head? = some 0)
    run { bytes := bytes, offByte := true } = .next s
    ∧ run { bytes := [writeAddress s.own], offByte := false } = .next s
    ∧ run { bytes := [writeAddress s.own, command], offByte := false } = .next s
    ∧ (¬ unchecked → ¬ checked → run { bytes := bytes, offByte := false } = .next (answer .badLength))
    ∧ (unchecked → s.mgmt.checkMode = .required → run { bytes := bytes, offByte := false } = .next (answer .missingCheck))
    ∧ (checked → s.mgmt.checkMode ≠ .off → rest.getLast? ≠ some check →
        run { bytes := bytes, offByte := false } = .next (answer .badCheck))
    ∧ (good → command = 0 ∨ 9 < command.toNat →
        run { bytes := bytes, offByte := false } = .next (answer .unknownCommand))
    ∧ (good → command ≠ 0 → command.toNat ≤ 9 → ¬ served →
        run { bytes := bytes, offByte := false } = .next (answer .notReady))
    ∧ (good → command ≠ 0 → command.toNat ≤ 9 → served →
        some length.toNat ≠ [4, 2, 2, 1, 0, 4, 2, 0, 0][command.toNat - 1]? →
        run { bytes := bytes, offByte := false } = .next (answer .badLength)))
  ∧ (∀ (straps : StationNo) (sync : Level) (f : RawFrame) (s : State),
      s.resetLow = true ∨ f.bytes.head? ≠ some (writeAddress s.own) → exec (.unknownCommand straps sync f) s = .next s)
  ∧ (∀ k : StationNo, (writeAddress k).toNat = 2 * (0x40 + k.toNat))
  ∧ (∀ (straps : StationNo) (sync : Level) (f : Frame) (s : State),
      let raw (c : Command) := exec (.unknownCommand straps sync { bytes := frameBytes c f, offByte := f.offByte }) s
      exec (.readView f) s = raw .readView ∧ exec (.clearEvents f) s = raw .clearEvents
        ∧ exec (.setEventMask f) s = raw .setEventMask ∧ exec (.clearCaptures f) s = raw .clearCaptures
        ∧ exec (.clearCounters f) s = raw .clearCounters ∧ exec (.postDirective f) s = raw .postDirective
        ∧ exec (.depart f) s = raw .depart ∧ exec (.rejoin sync f) s = raw .rejoin
        ∧ exec (.restart straps f) s = raw .restart)
  ∧ (∀ (straps : StationNo) (sync : Level) (command : Byte) (p : List Byte) (s : State), p.length < 256 →
      let head := [writeAddress s.own, command, byte p.length]
      let send (rest : List Byte) := exec (.unknownCommand straps sync { bytes := head ++ rest, offByte := false }) s
      let check := managementCheck (head ++ p)
      (s.mgmt.checkMode ≠ .required → send p = send (p ++ [check]))
        ∧ ∀ b : Byte, s.mgmt.checkMode = .off → send (p ++ [b]) = send (p ++ [check]))
  ∧ ∀ (straps : StationNo) (sync : Level) (offByte : Bool) (address : Byte) (bytes : List Byte) (s : State),
      let sent := bytes.foldl State.portByte (s.portAddress address)
      let own := address.toNat / 2 = 0x40 + s.own.toNat
      (s.acknowledges (address.extractLsb' 1 7) = true ↔ s.resetLow = false ∧ own)
      ∧ (s.resetLow = false → address = writeAddress s.own →
          sent = { s with mgmt := { s.mgmt with transaction := .receiving (address :: bytes) } }
          ∧ sent.portAcknowledges = true
          ∧ sent.portEnd straps sync offByte = { s with
              pending := s.pending ++ [.unknownCommand straps sync { bytes := address :: bytes, offByte := offByte }]
              mgmt := { s.mgmt with transaction := .idle } })
      ∧ (s.resetLow = true ∨ ¬ own → s.mgmt.transaction = .idle →
          sent = s ∧ sent.portAcknowledges = false ∧ sent.portEnd straps sync offByte = s)

/-- READ_VIEW answers the bytes asked for of a page, or BAD_OPERAND, and changes nothing else; in Booting it serves page 0
alone. The pages have the lengths and the fields of the table. A read of the port returns status, data and check byte, then
released bits, NONE while the buffer is empty, and released bits from a reset on (R161 to R165, R175); byte by byte a read
transaction gives the same. What the views show of empty entries, and as the value of a failure position of kind none, is
the model's choice (notes/assumptions/9.md), and so are that a read returns what the buffer held at its address byte
(notes/assumptions/21.md), that bits 3 and 2 of a ring slot byte and bits 14 and 15 of the event flags read 0
(notes/assumptions/26.md), and that a flag byte is 1 or 0 (notes/assumptions/27.md). -/
def Obligations.ReadViewAnswersFromThePage : Prop :=
  (∀ (page count : Byte) (offset : BitVec 16) (s : State), s.resetLow = false →
    s.ctl.station ≠ .booting ∨ page = 0 →
    let c := exec (.readView (checkedFrame s .readView (page :: bytes16 offset ++ [count]))) s
    let answer (r : Response) : State := { s with mgmt := { s.mgmt with response := some r } }
    (6 < page.toNat → c = .next (answer { status := .badOperand, data := [] }))
    ∧ ∀ b, s.page page.toNat = some b →
      (count = 0 ∨ 32 < count.toNat ∨ b.length < offset.toNat + count.toNat →
        c = .next (answer { status := .badOperand, data := [] }))
      ∧ (1 ≤ count.toNat → count.toNat ≤ 32 → offset.toNat + count.toNat ≤ b.length →
        c = .next (answer { status := .ok, data := (b.drop offset.toNat).take count.toNat })))
  ∧ (∀ s : State, (List.range 7).map (fun p => (s.page p).map List.length) =
      [some 52, some 722, some (52 + 2 * s.alloc.standing.grants.length), some 264, some 57, some 44, some 48])
  ∧ (∀ (s : State) (b : List Byte),
      (s.page 0 = some b → fieldsAt b s.fields0 ∧ fieldsAt b ((List.range 4).map s.directiveFields))
      ∧ (s.page 1 = some b → ∀ k : StationNo, fieldsAt b (s.fields1 k))
      ∧ (s.page 2 = some b → fieldsAt b s.fields2)
      ∧ (s.page 3 = some b → (∀ q : Fin 12, fieldsAt b (s.queueFields q)) ∧ fieldsAt b s.fields3
          ∧ fieldsAt b ((List.range 32).map s.slotField))
      ∧ (s.page 4 = some b → fieldsAt b s.fields4) ∧ (s.page 5 = some b → fieldsAt b s.fields5)
      ∧ (s.page 6 = some b → ∀ t : Fin 4, fieldsAt b (s.fields6 t)))
  ∧ ((∀ n : Nat, nat16 n = [byte (n / 256), byte n]
        ∧ nat32 n = [byte (n / 16777216), byte (n / 65536), byte (n / 256), byte n])
      ∧ [StationState.booting, .failsafe, .listening, .joining, .active, .resync, .leaving, .quiet, .fenced, .excluded].map
          StationState.code = [0, 1, 2, 3, 4, 5, 6, 7, 8, 9]
      ∧ [Cause.none, .ecc, .digest, .range, .noLocal, .clash, .plan].map Cause.code = [0, 1, 2, 3, 4, 5, 6]
      ∧ [ResetCause.power, .pin, .command].map ResetCause.code = [0, 1, 2]
      ∧ [CheckMode.off, .optional, .required].map CheckMode.code = [0, 1, 2]
      ∧ [DirectiveKind.setPercent, .evict, .readmit].map DirectiveKind.code = [1, 2, 3]
      ∧ [PeerState.absent, .heard, .held].map PeerState.code = [0, 1, 2]
      ∧ [NoticeStatus.joining, .active, .resync, .leaving, .fenced].map NoticeStatus.code = [1, 2, 3, 4, 5]
      ∧ [Origin.computed, .carried, .fallback].map Origin.code = [0, 1, 2]
      ∧ [SettleState.idle, .inFlight, .complete].map SettleState.code = [0, 1, 2]
      ∧ [MonitorState.masked, .clear, .pressed, .stale].map MonitorState.code = [0, 1, 2, 3]
      ∧ [Status.ok, .badLength, .badCheck, .missingCheck, .unknownCommand, .notReady, .badOperand, .notActive, .queueFull,
          .badState].map Status.code = [0, 1, 2, 3, 4, 5, 6, 7, 8, 9])
  ∧ (∀ (n : Nat) (s : State),
      (s.mgmt.response = none → s.readTransaction (2 + n) = 255 :: managementCheck [255] :: List.replicate n 0xFF)
      ∧ ∀ r : Response, s.mgmt.response = some r →
        s.readTransaction (1 + r.data.length + 1 + n) =
          (r.status.code :: r.data) ++ managementCheck (r.status.code :: r.data) :: List.replicate n 0xFF)
  ∧ (∀ (s : State) (n k i : Nat), i < n →
      (s.readTransactionReset n k)[i]? = if i < k then (s.readTransaction n)[i]? else some 0xFF)
  ∧ ∀ (s : State) (n : Nat),
      (s.resetLow = false → (s.portAddress (writeAddress s.own + 1)).portReads n = s.readTransaction n)
      ∧ (s.mgmt.transaction = .idle → s.portReads n = List.replicate n 0xFF)

/-- The event mask: all-masked at any reset, the loaded one at the completion of a load, the written one at a
SET_EVENT_MASK, and otherwise what it was. That a SET_EVENT_MASK in Failsafe replaces it is the model's choice
(notes/assumptions/25.md). ATTN is asserted exactly while a flag is set that is unmasked or FAILSAFE, and
RESET is not low (R12, R16, R167). -/
def Obligations.TheMaskDecidesAttn : Prop :=
  (∀ (straps : StationNo) (s : State), ∀ c ∈ [Instr.powerOnReset straps, .pinReset, .restart straps (checkedFrame s .restart [])],
    s.resetLow = false → ∃ t, exec c s = .next t ∧ t.mgmt.mask = BitVec.allOnes 14)
  ∧ (∀ (settings : Settings) (s : State), (s.completeLoad settings).mgmt.mask = settings.eventMask)
  ∧ (∀ (mask : BitVec 16) (s : State), s.resetLow = false → s.ctl.station ≠ .booting →
    exec (.setEventMask (checkedFrame s .setEventMask (bytes16 mask))) s = .next { s with
      mgmt := { s.mgmt with mask := mask.setWidth 14, response := some { status := .ok, data := [] } } })
  ∧ (∀ (c : Instr) (s t : State), exec c s = .next t → t.mgmt.mask = s.mgmt.mask
      ∨ (∃ straps, c = .powerOnReset straps ∨ c = .pinResetRelease straps ∨ (∃ f, c = .restart straps f)
          ∨ ∃ sync f, c = .unknownCommand straps sync f)
      ∨ c = .pinReset ∨ (∃ f, c = .setEventMask f) ∨ ∃ g, c = .granuleRead g)
  ∧ ∀ s : State, s.attn = true ↔ s.resetLow = false
      ∧ ∃ e : Event, s.mgmt.flag e = true ∧ (s.mgmt.mask.getLsbD e.bit = false ∨ e = .failsafe)

/-- CLEAR_EVENTS clears the named flags but those whose condition holds and leaves the others; CLEAR_CAPTURES clears the
named capture records, CLEAR_COUNTERS the eleven counters; each answers OK. In each of the four capture records an event
fills a cleared record with count 1, and a later one raises the count, to 15 at most (R163, R166, R168, R170). -/
def Obligations.ClearCommandsSpareWhatHolds : Prop :=
  (∀ (named : BitVec 16) (s : State), s.resetLow = false → s.ctl.station ≠ .booting →
    ∃ flags, exec (.clearEvents (checkedFrame s .clearEvents (bytes16 named))) s = .next { s with
        mgmt := { s.mgmt with flags := flags, response := some { status := .ok, data := [] } } }
      ∧ (∀ e : Event, flags.getLsbD e.bit =
          (s.mgmt.flags.getLsbD e.bit && (!named.getLsbD e.bit || s.condition e)))
      ∧ s.condition .line = s.sbi.faults.any
      ∧ (s.condition .fallback = true ↔ s.alloc.standing.origin = .fallback)
      ∧ (s.condition .excluded = true ↔ s.ctl.station = .excluded)
      ∧ (s.condition .fenced = true ↔ s.ctl.station = .fenced)
      ∧ (s.condition .failsafe = true ↔ s.ctl.station = .failsafe)
      ∧ (s.condition .stale = true ↔ ∃ t : Fin 4, t.val < s.plan.targets ∧ s.monitors[t].state = .stale)
      ∧ ∀ e ∈ [Event.readback, .vetoed, .minority, .cfgFix, .storeFull, .expired, .dirDone, .dirDrop],
          s.condition e = false)
  ∧ (∀ (which : Byte) (s : State), s.resetLow = false → s.ctl.station ≠ .booting →
    exec (.clearCaptures (checkedFrame s .clearCaptures [which])) s = .next { s with
      mgmt := { s.mgmt with
        bus := if which.getLsbD 0 then { first := none, count := 0 } else s.mgmt.bus
        agreement := if which.getLsbD 1 then { first := none, count := 0 } else s.mgmt.agreement
        directive := if which.getLsbD 2 then { first := none, count := 0 } else s.mgmt.directive
        config := if which.getLsbD 3 then { first := none, count := 0 } else s.mgmt.config
        response := some { status := .ok, data := [] } } })
  ∧ (∀ s : State, s.resetLow = false → s.ctl.station ≠ .booting →
    exec (.clearCounters (checkedFrame s .clearCounters [])) s = .next { s with
      mgmt := { s.mgmt with
        counters := { offersTaken := 0, offersRefused := 0, releases := 0, recalls := 0, expiries := 0, trueMarks := 0
                      voidEpochs := 0, cutEpochs := 0, badFrames := 0, ignoredDirectives := 0, ignoredReports := 0 }
        response := some { status := .ok, data := [] } } })
  ∧ (∀ (c : Capture BusEvent) (e : BusEvent), c.record e =
      if c.first = none then { first := some e, count := 1 } else { c with count := min (c.count + 1) 15 })
  ∧ (∀ (c : Capture MinorityEvent) (e : MinorityEvent), c.record e =
      if c.first = none then { first := some e, count := 1 } else { c with count := min (c.count + 1) 15 })
  ∧ (∀ (c : Capture IgnoredEvent) (e : IgnoredEvent), c.record e =
      if c.first = none then { first := some e, count := 1 } else { c with count := min (c.count + 1) 15 })
  ∧ ∀ (c : Capture ConfigEvent) (e : ConfigEvent), c.record e =
      if c.first = none then { first := some e, count := 1 } else { c with count := min (c.count + 1) 15 }

/-- POST_DIRECTIVE, by its checks in order: state, room, operand; then the record joins the tail with the own number, the
counter's sequence and send count 0, the counter rises, and the sequence is answered (R112, R113, R114). -/
def Obligations.PostDirectiveChecksThenQueues : Prop :=
  ∀ (priority kind : Byte) (operand : BitVec 16) (s : State), s.resetLow = false → s.ctl.station ≠ .booting →
    let c := exec (.postDirective (checkedFrame s .postDirective (priority :: kind :: bytes16 operand))) s
    let refused (status : Status) : State := { s with mgmt := { s.mgmt with response := some { status := status, data := [] } } }
    let room := s.ctl.queue.length < 4
    (s.ctl.station ≠ .active → c = .next (refused .notActive))
    ∧ (s.ctl.station = .active → ¬ room → c = .next (refused .queueFull))
    ∧ (s.ctl.station = .active → room → (3 < priority.toNat ∨ kind = 0 ∨ 3 < kind.toNat
        ∨ (kind = 1 ∧ (s.plan.targets ≤ operandTarget operand ∨ 100 < operandPercent operand))) →
        c = .next (refused .badOperand))
    ∧ ∀ k, s.ctl.station = .active → room → priority.toNat ≤ 3 → DirectiveKind.ofByte kind = some k →
        (kind = 1 → operandTarget operand < s.plan.targets ∧ operandPercent operand ≤ 100) →
        c = .next { s with
          ctl := { s.ctl with
            queue := s.ctl.queue ++ [{ frame := { priority := priority.setWidth 2, sender := s.own, seq := s.ctl.nextSeq
                                                  kind := k, operand := operand }
                                       sendCount := 0 }]
            nextSeq := s.ctl.nextSeq + 1 }
          mgmt := { s.mgmt with response := some { status := .ok, data := [s.ctl.nextSeq] } } }

/-- DEPART in Active begins the drain at once: Leaving, with its count, the line drives of an Active station released, a
Directive Frame cut short unless its last bit is past, and the pacer restarted; with nothing held the station goes straight
to Quiet, and a notice is cut short likewise. A count above 4,095 and any other state are refused (R19, R30, R104, R106,
R153, R154, R163). That a frame counts as whole by the timer's reading is the model's choice (notes/assumptions/5.md). -/
def Obligations.DepartBeginsTheDrain : Prop :=
  ∀ (count : BitVec 16) (s : State), s.resetLow = false → s.ctl.station ≠ .booting →
    let c := exec (.depart (checkedFrame s .depart (bytes16 count))) s
    let refused (status : Status) : State := { s with mgmt := { s.mgmt with response := some { status := status, data := [] } } }
    (s.ctl.station ≠ .active → c = .next (refused .badState))
    ∧ (s.ctl.station = .active → 4095 < count.toNat → c = .next (refused .badOperand))
    ∧ (s.ctl.station = .active → count.toNat ≤ 4095 → s.store.held ≠ [] →
      ∃ readback, c = .next { s with
          ctl := { s.ctl with station := .leaving, drainCount := count.toNat, drainProgress := 0, drainEpochs := 0 }
          sbi := { s.sbi with vetoDrive := false, readback := readback }
          meter := { s.meter with position := 0, halt := false, running := true, sinceStep := 0 }
          mgmt := { s.mgmt with response := some { status := .ok, data := [] } } }
        ∧ (∀ d, s.sbi.txBuffer = some (.directive d) → readback ≠ .driving
            ∧ (s.sbi.readback = .driving → readback = if 6675 ≤ s.sbi.timer then .complete else .released))
        ∧ ((∀ d, s.sbi.txBuffer ≠ some (.directive d)) → readback = s.sbi.readback))
    ∧ (s.ctl.station = .active → count.toNat ≤ 4095 → s.store.held = [] →
      ∃ t, c = .next t ∧ t.ctl.station = .quiet ∧ t.ctl.queue = [] ∧ t.ctl.drainCount = count.toNat
        ∧ t.meter.running = false ∧ t.sent = s.sent ∧ t.mgmt.response = some { status := .ok, data := [] }
        ∧ t.sbi.vetoDrive = false ∧ t.sbi.syncDrive = .released
        ∧ (s.sbi.txBuffer ≠ none → t.sbi.readback ≠ .driving)
        ∧ (∀ d, s.sbi.txBuffer = some (.directive d) → s.sbi.readback = .driving →
            t.sbi.readback = if 6675 ≤ s.sbi.timer then .complete else .released)
        ∧ (∀ n, s.sbi.txBuffer = some (.notice n) → s.sbi.readback = .driving →
            t.sbi.readback = if 565 + 400 * n.sender.toNat ≤ s.sbi.timer then .complete else .released)
        ∧ t.mgmt.flag .dirDrop = (s.mgmt.flag .dirDrop || !s.ctl.queue.isEmpty)
        ∧ t.sbi.timer = s.sbi.timer ∧ s.exitFrame t)

/-- REJOIN in Quiet enters Listening with its Peer Table cleared, its counts at 0 and its monitors masked, the timer
running on; a timer that holds at E_len reaches it at once: SYNC is driven, or, while SYNC is stuck low, a local mark is
made, which counts one listen epoch and, where the plan asks for one, ends in Joining, since nothing is heard (R21, R22, R37,
R44, R91, R96, R97, R107, R125, R129). Any other state is refused. That the heard set stays until the mark is the model's
choice (notes/assumptions/15.md). -/
def Obligations.RejoinEntersListening : Prop :=
  ∀ (sync : Level) (s : State), s.resetLow = false → s.ctl.station ≠ .booting →
    let c := exec (.rejoin sync (checkedFrame s .rejoin [])) s
    (s.ctl.station ≠ .quiet → c = .next { s with
        mgmt := { s.mgmt with response := some { status := .badState, data := [] } } })
    ∧ (s.ctl.station = .quiet → s.sbi.timer < 100 * s.plan.epochLength ∨ s.sbi.faults.syncLow = false →
      ∃ t, c = .next t
        ∧ t.ctl = { s.ctl with station := .listening, listenCount := 0, streak := 0 }
        ∧ (∀ k : StationNo, t.census.entry k = PeerEntry.reset) ∧ t.census.heard = s.census.heard
        ∧ t.sbi.clashStreak = 0 ∧ t.sbi.timer = s.sbi.timer ∧ t.sbi.phase = s.sbi.phase ∧ t.sbi.seq = s.sbi.seq
        ∧ t.sbi.running = true ∧ t.sbi.faults = s.sbi.faults
        ∧ (100 * s.plan.epochLength ≤ s.sbi.timer → sync = .recessive → t.sbi.syncDrive = .attempting)
        ∧ (∀ i : Fin 4, t.monitors[i] = if i.val < s.plan.targets then
            { s.monitors[i] with state := .masked, highCount := 0, lowCount := 0, marks := 0 } else s.monitors[i])
        ∧ t.store = s.store ∧ t.alloc = s.alloc ∧ t.sent = s.sent ∧ t.meter.running = false
        ∧ t.mgmt = { s.mgmt with response := some { status := .ok, data := [] } })
    ∧ (s.ctl.station = .quiet → 100 * s.plan.epochLength ≤ s.sbi.timer → s.sbi.faults.syncLow = true →
      ∃ t, c = .next t ∧ t.sbi.timer = 0 ∧ t.sbi.seq = s.sbi.seq ∧ t.sbi.phase = s.sbi.phase ∧ t.sbi.clashStreak = 0
        ∧ t.sbi.running = true ∧ t.sbi.faults = s.sbi.faults ∧ t.alloc = s.cutAlloc
        ∧ t.ctl.station = (if s.plan.listenEpochs = 1 then .joining else .listening)
        ∧ t.ctl.listenCount = 1 ∧ t.ctl.streak = 0
        ∧ (∀ k : StationNo, t.census.entry k = PeerEntry.reset) ∧ t.census.heard = 0
        ∧ (∀ i : Fin 4, t.monitors[i] = if i.val < s.plan.targets then
            { s.monitors[i] with state := .masked, highCount := 0, lowCount := 0, marks := 1 } else s.monitors[i])
        ∧ t.mgmt.counters.cutEpochs = min (s.mgmt.counters.cutEpochs + 1) 4294967295
        ∧ t.mgmt.response = some { status := .ok, data := [] })

/-! ### The descriptor link and the monitors -/

/-- An OFFER passes six checks in order, and the first that fails refuses it with its reason, which counts it and, for room,
sets STORE_FULL; an offer that passes all is taken at the tail of its queue (R135, R137, R138, R139, R140). -/
def Obligations.OffersPassSixChecks : Prop :=
  ∀ (tag : Tag) (target cls : Byte) (length : BitVec 16) (s : State), s.resetLow = false → s.plan.targets ≤ 4 →
    let c := exec (.offer tag target cls length) s
    let refused (reason : RefusalReason) (flags : BitVec 14) : State := { s with
      sent := s.sent ++ [.refused tag reason]
      mgmt := { s.mgmt with
        flags := flags
        counters := { s.mgmt.counters with offersRefused := min (s.mgmt.counters.offersRefused + 1) 4294967295 } } }
    let full := s.mgmt.flags ||| eventBit .storeFull
    let serving := s.ctl.station = .listening ∨ s.ctl.station = .joining ∨ s.ctl.station = .active
      ∨ s.ctl.station = .resync
    let inRange := target.toNat < s.plan.targets ∧ cls.toNat ≤ 2 ∧ 64 ≤ length.toNat ∧ length.toNat ≤ 9216
    (s.ctl.station = .leaving → c = .next (refused .leaving s.mgmt.flags))
    ∧ (s.ctl.station ≠ .leaving → ¬ serving → c = .next (refused .notServing s.mgmt.flags))
    ∧ (serving → ¬ inRange → c = .next (refused .badField s.mgmt.flags))
    ∧ ∀ (t : Fin 4) (k : TrafficClass), serving → inRange → target.toNat = t.val → TrafficClass.ofByte cls = some k →
      let q := queueIndex t k
      let held := s.store.queues[q]
      let tagHeld := ∃ d ∈ s.store.held, d.tag = tag
      let cells := (length.toNat + 127) / 128
      (s.admin.percents[t] = 0 → c = .next (refused .targetHeld s.mgmt.flags))
      ∧ (s.admin.percents[t] ≠ 0 → tagHeld → c = .next (refused .tagBusy s.mgmt.flags))
      ∧ (s.admin.percents[t] ≠ 0 → ¬ tagHeld → 512 ≤ s.store.heldCount → c = .next (refused .storeFull full))
      ∧ (s.admin.percents[t] ≠ 0 → ¬ tagHeld → s.store.heldCount < 512 → s.settings.queueLimits[q] ≤ held.length →
          c = .next (refused .queueFull full))
      ∧ (s.admin.percents[t] ≠ 0 → ¬ tagHeld → s.store.heldCount < 512 → held.length < s.settings.queueLimits[q] →
          c = .next { s with
            store := { s.store with
              queues := s.store.queues.set q
                (held ++ [{ tag := tag, target := t, cls := k, length := length.toNat, cells := cells, age := 0 }])
              arrivals := s.store.arrivals.set q (min (s.store.arrivals[q] + cells) 65535) }
            sent := s.sent ++ [.taken tag]
            mgmt := { s.mgmt with counters :=
              { s.mgmt.counters with offersTaken := min (s.mgmt.counters.offersTaken + 1) 4294967295 } } })

/-- A RECALL of a held tag removes its record, wherever it stands, counts the recall and answers RECALLED, and a Leaving
station that holds nothing more ends its drain, dropping its directives; any other tag is answered from the release history,
and nothing changes (R106, R143). -/
def Obligations.RecallsAreAnsweredFromStoreAndHistory : Prop :=
  ∀ (tag : Tag) (s : State), s.resetLow = false →
    let c := exec (.recall tag) s
    let tagHeld := ∃ d ∈ s.store.held, d.tag = tag
    let store : Store := { s.store with queues := s.store.queues.map fun q => q.filter fun d => d.tag != tag }
    let counters := { s.mgmt.counters with recalls := min (s.mgmt.counters.recalls + 1) 4294967295 }
    (tagHeld → ¬ (s.ctl.station = .leaving ∧ store.held = []) →
      c = .next { s with store := store, sent := s.sent ++ [.recalled tag], mgmt := { s.mgmt with counters := counters } })
    ∧ (tagHeld → s.ctl.station = .leaving → store.held = [] →
      ∃ t, c = .next t ∧ t.ctl.station = .quiet ∧ t.ctl.queue = [] ∧ t.store.held = []
        ∧ t.store.history = s.store.history ∧ t.sent = s.sent ++ [.recalled tag] ∧ t.meter.running = false
        ∧ t.mgmt.counters.recalls = min (s.mgmt.counters.recalls + 1) 4294967295
        ∧ t.mgmt.flag .dirDrop = (s.mgmt.flag .dirDrop || !s.ctl.queue.isEmpty)
        ∧ t.sbi.timer = s.sbi.timer ∧ t.mgmt.response = s.mgmt.response ∧ s.exitFrame t)
    ∧ ((s.store.held.map (·.tag)).Nodup → tagHeld → store.heldCount + 1 = s.store.heldCount)
    ∧ (∀ (q : Fin 12) (d : Descriptor), (s.store.held.map (·.tag)).Nodup → d ∈ s.store.queues[q] → d.tag = tag →
        queuedCells store.queues[q] + d.cells = queuedCells s.store.queues[q])
    ∧ (¬ tagHeld → tag ∈ s.store.history → c = .next { s with sent := s.sent ++ [.recallLate tag] })
    ∧ (¬ tagHeld → tag ∉ s.store.history → c = .next { s with sent := s.sent ++ [.recallUnknown tag] })

/-- The release history: a pacer step that sends RELEASE appends the tag and drops the oldest of 64, and sends no other; one
that sends none leaves the history; a reset empties it; nothing else touches it, recalls, expiries and changes of state
included (R142). -/
def Obligations.OnlyReleasesEnterTheHistory : Prop :=
  (∀ s : State, ∃ t out, exec .pacerStep s = .next t ∧ t.sent = s.sent ++ out ∧
    (((∀ tag, LinkMessage.release tag ∉ out) ∧ t.store.history = s.store.history)
      ∨ ∃ (q : Fin 12) (d : Descriptor) (rest : List Descriptor) (others : List LinkMessage),
        s.store.queues[q] = d :: rest ∧ out = .release d.tag :: others ∧ (∀ tag, LinkMessage.release tag ∉ others)
        ∧ t.store.history =
          (if s.store.history.length < 64 then s.store.history else s.store.history.drop 1) ++ [d.tag]))
  ∧ (∀ (straps : StationNo) (s : State), s.resetLow = false →
      ∀ c ∈ [Instr.powerOnReset straps, .pinReset, .restart straps (checkedFrame s .restart [])],
        ∃ t, exec c s = .next t ∧ t.store.history = [])
  ∧ ∀ (c : Instr) (s t : State), exec c s = .next t → c ≠ .pacerStep →
      t.store.history = s.store.history ∨ (t.store.history = [] ∧ t.ctl.station = .booting)

/-- An OCCUPANCY report outside Booting and Failsafe: ignored and counted for a target at or above T, otherwise a reading
that the monitor of its target takes by its state (R126, R127). -/
def Obligations.OccupancyReadsOrIsIgnored : Prop :=
  ∀ (target : Byte) (cells : BitVec 16) (s : State), s.resetLow = false →
    let c := exec (.occupancy target cells) s
    (observes s.ctl.station = false → c = .next s)
    ∧ (observes s.ctl.station = true → s.plan.targets ≤ target.toNat → c = .next { s with
        mgmt := { s.mgmt with counters :=
          { s.mgmt.counters with ignoredReports := min (s.mgmt.counters.ignoredReports + 1) 4294967295 } } })
    ∧ ∀ t : Fin 4, observes s.ctl.station = true → target.toNat = t.val → t.val < s.plan.targets →
      s.monitors[t].consistent s.settings.monitors[t].debounce → 1 ≤ s.settings.monitors[t].debounce →
      s.settings.monitors[t].low < s.settings.monitors[t].high →
      ∃ m : Monitor, c = .next { s with monitors := s.monitors.set t m }
        ∧ m.lastReading = cells.toNat ∧ m.marks = 0
        ∧ (let before := s.monitors[t]
           let th := s.settings.monitors[t]
           let n := cells.toNat
           let is (state : MonitorState) (high low : Nat) := m.state = state ∧ m.highCount = high ∧ m.lowCount = low
           (before.state = .masked → th.high ≤ n → is .masked (min (before.highCount + 1) th.debounce) 0)
           ∧ (before.state = .masked → n < th.high → is .clear 0 0)
           ∧ (before.state = .clear → th.high ≤ n → before.highCount + 1 < th.debounce →
                is .clear (before.highCount + 1) 0)
           ∧ (before.state = .clear → th.high ≤ n → before.highCount + 1 = th.debounce → is .pressed 0 0)
           ∧ (before.state = .clear → n < th.high → is .clear 0 0)
           ∧ (before.state = .pressed → th.low < n → is .pressed 0 0)
           ∧ (before.state = .pressed → n ≤ th.low → before.lowCount + 1 < th.debounce →
                is .pressed 0 (before.lowCount + 1))
           ∧ (before.state = .pressed → n ≤ th.low → before.lowCount + 1 = th.debounce → is .clear 0 0)
           ∧ (before.state = .stale → is .clear 0 0))

/-- A message that is none of the three, by its type or by its byte count, is discarded and changes nothing (R133, R174).
Seven bytes of type 0x01, three of type 0x02 and four of type 0x03 are the OFFER, the RECALL and the OCCUPANCY of their
fields, each field's most significant byte first (R174); that LINK_MESSAGE_DISCARD does with them what the named command does
is the model's choice (notes/assumptions/19.md). The eight messages to the datapath have the bytes of the table (R174). -/
def Obligations.OtherMessagesAreDiscarded : Prop :=
  let two (x : BitVec 16) : List Byte := [byte (x.toNat / 256), byte (x.toNat % 256)]
  (∀ (bytes : List Byte) (s : State),
    (bytes.head? = some 0x01 → bytes.length ≠ 7) → (bytes.head? = some 0x02 → bytes.length ≠ 3) →
    (bytes.head? = some 0x03 → bytes.length ≠ 4) →
    exec (.linkMessageDiscard bytes) s = .next s)
  ∧ (∀ (tag : Tag) (target cls : Byte) (length cells : BitVec 16) (s : State),
      exec (.linkMessageDiscard ([0x01] ++ two tag ++ [target, cls] ++ two length)) s = exec (.offer tag target cls length) s
      ∧ exec (.linkMessageDiscard ([0x02] ++ two tag)) s = exec (.recall tag) s
      ∧ exec (.linkMessageDiscard ([0x03, target] ++ two cells)) s = exec (.occupancy target cells) s)
  ∧ (∀ tag : Tag,
      LinkMessage.bytes (.taken tag) = [0x81] ++ two tag
      ∧ (∀ r, LinkMessage.bytes (.refused tag r) = [0x82] ++ two tag ++ [r.code])
      ∧ LinkMessage.bytes (.release tag) = [0x83] ++ two tag
      ∧ (∀ r, LinkMessage.bytes (.expired tag r) = [0x84] ++ two tag ++ [r.code])
      ∧ LinkMessage.bytes (.recalled tag) = [0x85] ++ two tag ∧ LinkMessage.bytes (.recallLate tag) = [0x86] ++ two tag
      ∧ LinkMessage.bytes (.recallUnknown tag) = [0x87] ++ two tag)
  ∧ LinkMessage.bytes .flushed = [0x88]
  ∧ [RefusalReason.notServing, .leaving, .badField, .targetHeld, .tagBusy, .storeFull, .queueFull].map RefusalReason.code =
      [1, 2, 3, 4, 5, 6, 7]
  ∧ [ExpiryReason.age, .depart, .fence, .exclude].map ExpiryReason.code = [1, 2, 3, 4]

/-! ### Release metering -/

/-- A step of the running pacer comes one step interval after the last one, or after the pacer's start: the command lets
the time to it pass (the model's choice, notes/assumptions/5.md). It does nothing while halted; otherwise the slot at the
position is visited, and its head is released when the slot is not skipped, the queue holds one and its counter is above 0;
a stop slot halts the ring; the position advances round the ring, after a release that ends the drain too (the model's
choice, notes/assumptions/17.md). A stopped pacer makes no step (R141, R142, R154 to R156, R158). -/
def Obligations.PacerStepVisitsTheSlot : Prop :=
  (∀ s : State, s.meter.running = false → exec .pacerStep s = .next s)
  ∧ ∀ (slot : RingSlot) (s : State), s.meter.running = true → s.settings.ring[s.meter.position]? = some slot →
    let q := queueIndex slot.target slot.cls
    let position := (s.meter.position + 1) % s.settings.ring.length
    let u := s.passTime (s.settings.stepInterval - s.meter.sinceStep)
    let since := s.meter.sinceStep - s.settings.stepInterval
    let moved (credits : Vector Int 12) : Meter :=
      { s.meter with credits := credits, halt := slot.stop, position := position, sinceStep := since }
    (s.meter.halt = true → exec .pacerStep s = .next { u with meter := { s.meter with sinceStep := since } })
    ∧ (s.meter.halt = false → slot.skip = true ∨ s.store.queues[q] = [] ∨ s.meter.credits[q] ≤ 0 →
      exec .pacerStep s = .next { u with meter := moved s.meter.credits })
    ∧ ∀ d rest, s.meter.halt = false → slot.skip = false → s.store.queues[q] = d :: rest → 0 < s.meter.credits[q] →
      let charged := s.meter.credits[q] - d.cells
      let history := (if s.store.history.length < 64 then s.store.history else s.store.history.drop 1) ++ [d.tag]
      let releases := min (s.mgmt.counters.releases + 1) 4294967295
      (s.ctl.station ≠ .leaving →
        exec .pacerStep s = .next { u with
          meter := moved (s.meter.credits.set q charged)
          store := { s.store with queues := s.store.queues.set q rest, history := history }
          sent := s.sent ++ [.release d.tag]
          mgmt := { s.mgmt with counters := { s.mgmt.counters with releases := releases } } })
      ∧ (s.ctl.station = .leaving →
        ∃ t, exec .pacerStep s = .next t ∧ t.meter.halt = slot.stop ∧ t.meter.position = position
          ∧ t.meter.sinceStep = since ∧ t.sbi.timer = u.sbi.timer
          ∧ (t.store.queues[q] = rest ∨ (t.ctl.station = .quiet ∧ t.store.queues[q] = []))
          ∧ (t.meter.credits[q] = charged ∨ (t.ctl.station = .quiet ∧ t.meter.credits[q] = min charged 0))
          ∧ t.store.history = history ∧ t.mgmt.counters.releases = releases
          ∧ t.sent.take (s.sent.length + 1) = s.sent ++ [.release d.tag])

/-- A release in Leaving counts toward the drain; the one that reaches a drain count other than 0, or takes the last
descriptor, ends the drain: what is left is expired DEPART, the Directive Queue is dropped, each with its flag, and the
station is Quiet. At a mark that ends an epoch, and at
which the station is not fenced, the drain epochs passed rise by 1; the drain ends when they reach the drain epoch limit, or
when the ageing of the mark takes the last descriptor; that an ageing taken first does so before the count rises, and that a
fenced station's count does not rise, is the model's choice (notes/assumptions/16.md) (R105, R106, R109, R110,
R145, R159). -/
def Obligations.ReleasesEndTheDrain : Prop :=
  (∀ (slot : RingSlot) (d : Descriptor) (rest : List Descriptor) (s : State), s.meter.running = true →
    s.settings.ring[s.meter.position]? = some slot → s.ctl.station = .leaving → s.meter.halt = false → slot.skip = false →
    let q := queueIndex slot.target slot.cls
    s.store.queues[q] = d :: rest → 0 < s.meter.credits[q] →
    let progress := min (s.ctl.drainProgress + 1) 4095
    let left := (s.store.release q d).held
    let ends := (s.ctl.drainCount ≠ 0 ∧ progress = s.ctl.drainCount) ∨ left = []
    ∃ t, exec .pacerStep s = .next t ∧ t.ctl.drainProgress = progress ∧ t.ctl.drainCount = s.ctl.drainCount
      ∧ t.ctl.drainEpochs = s.ctl.drainEpochs ∧ t.mgmt.response = s.mgmt.response ∧ s.exitFrame t
      ∧ (¬ ends → t.ctl.station = .leaving ∧ t.sent = s.sent ++ [.release d.tag] ∧ t.store.held = left
          ∧ t.ctl.queue = s.ctl.queue ∧ t.meter.running = true ∧ t.mgmt.flags = s.mgmt.flags
          ∧ t.mgmt.counters.expiries = s.mgmt.counters.expiries)
      ∧ (ends → t.ctl.station = .quiet ∧ t.store.held = [] ∧ t.ctl.queue = [] ∧ t.meter.running = false
          ∧ t.sent = s.sent ++ .release d.tag :: left.map (fun (x : Descriptor) => LinkMessage.expired x.tag .depart)
          ∧ t.mgmt.counters.expiries = min (s.mgmt.counters.expiries + left.length) 4294967295
          ∧ t.mgmt.flag .expired = (s.mgmt.flag .expired || !left.isEmpty)
          ∧ t.mgmt.flag .dirDrop = (s.mgmt.flag .dirDrop || !s.ctl.queue.isEmpty)
          ∧ ∀ i : Fin 12, t.meter.credits[i] ≤ 0))
  ∧ ∀ (c : Instr) (ageingFirst : Bool) (s : State), s.endedBy c ageingFirst → s.ctl.station = .leaving →
    let epochs := min (s.ctl.drainEpochs + 1) 255
    let emptied := s.store.held ≠ [] ∧ ∀ d ∈ s.store.held, d.age = s.settings.ageLimit
    ∃ t, exec c s = .next t ∧ t.ctl.drainCount = s.ctl.drainCount ∧ t.ctl.drainProgress = s.ctl.drainProgress
      ∧ (s.cutBy c ageingFirst ∨ (s.sbi.vetoed = true ∧ s.alloc.settle ≠ .idle)
          ∨ holds t.alloc.standing.admin.evicted s.own = false →
        (ageingFirst = true → emptied → t.ctl.station = .quiet ∧ t.ctl.drainEpochs = s.ctl.drainEpochs)
        ∧ (¬ (ageingFirst = true ∧ emptied) → t.ctl.drainEpochs = epochs
            ∧ t.ctl.station = if epochs = s.settings.drainLimit ∨ emptied then .quiet else .leaving)
        ∧ (t.ctl.station = .quiet → t.store.held = [] ∧ t.ctl.queue = [] ∧ t.meter.running = false
            ∧ (s.cutBy c ageingFirst ∨ s.ctl.awaiting = false →
                t.mgmt.flag .dirDrop = (s.mgmt.flag .dirDrop || !s.ctl.queue.isEmpty))
            ∧ (¬ s.cutBy c ageingFirst → s.ctl.awaiting = true →
                t.mgmt.flag .dirDrop = (s.mgmt.flag .dirDrop || !s.ctl.queue.tail.isEmpty)))
        ∧ (t.ctl.station = .leaving → t.mgmt.flag .dirDrop = s.mgmt.flag .dirDrop))

/-! ### Invariants -/

/-- Every invariant of the statements below holds right after reset. -/
def Obligations.InvariantsHoldAtReset : Prop :=
  RestInv State.reset ∧ LoadedInv State.reset ∧ PortInv State.reset ∧ SbiInv State.reset ∧ PhaseInv State.reset
    ∧ SettleInv State.reset ∧ LinesInv State.reset ∧ PeersInv State.reset
    ∧ VoidInv State.reset ∧ AllocInv State.reset ∧ DirectiveInv State.reset ∧ MonitorsInv State.reset
    ∧ StoreInv State.reset ∧ CreditInv State.reset ∧ MeterInv State.reset ∧ FlagsInv State.reset

/-- A load is in flight in Booting alone; CFG_SEL is low in Booting alone, and high, with CFG_CLK held low, outside it and
while RESET is low; Booting and Failsafe hold every block at its reset values; and what observes the lines holds a validated
plan and settings (R2, R11, R12, R14, R16, R17). -/
def Obligations.LoadInvariantsAreKept : Prop :=
  ∀ s t : State, RestInv s → LoadedInv s → PortInv s → step s = .next t → RestInv t ∧ LoadedInv t ∧ PortInv t

/-- The timer never passes E_len and the clash streak never passes 2; the phase position is Stalled while SYNC is stuck low,
and Unaligned in Listening alone; each line is driven only in the states that may drive
it; the Directive Queue never holds more than four directives, and none out of service; the pacer runs in the releasing
states alone, and the others hold no credit (R19, R21, R22, R24, R35, R36, R115, R151, R154). -/
def Obligations.LinesQueueAndPacerFollowTheState : Prop :=
  ∀ s t : State, RestInv s → SbiInv s → PhaseInv s → LinesInv s → DirectiveInv s → MeterInv s → step s = .next t →
    SbiInv t ∧ PhaseInv t ∧ LinesInv t ∧ DirectiveInv t ∧ MeterInv t

/-- The Peer Table stays consistent: a Held entry was last heard serving and has missed fewer slots than the limit, and an
entry's contents come from its own number (R46, R47, R49). -/
def Obligations.PeerTableStaysConsistent : Prop :=
  ∀ s t : State, RestInv s → LoadedInv s → PeersInv s → step s = .next t → PeersInv t

/-- The standing record and the pending one never grant more than an effective capacity, a ceiling, or a guest's floor, and
the origin of each stays paired with its void count as R82 allows; and a settle in flight, and it alone, holds what was
handed to it (R56, R62, R71, R81, R82). -/
def Obligations.AllocationStaysWithinItsBounds : Prop :=
  ∀ s t : State, RestInv s → LoadedInv s → VoidInv s → AllocInv s → SettleInv s → step s = .next t →
    VoidInv t ∧ AllocInv t ∧ SettleInv t

/-- Each monitor in use stays consistent with its state, and the others rest in Masked (R125, R126, R129). -/
def Obligations.MonitorsStayConsistent : Prop :=
  ∀ s t : State, RestInv s → LoadedInv s → MonitorsInv s → step s = .next t → MonitorsInv t

/-- The store never holds more than 512 descriptors, more than a queue's limit in a queue, or two of one tag; and every
credit counter stays between −71 and 65,535 (R135, R140, R142, R148). -/
def Obligations.StoreAndCreditStayWithinTheirBounds : Prop :=
  ∀ s t : State, RestInv s → StoreInv s → CreditInv s → step s = .next t → StoreInv t ∧ CreditInv t

/-- LINE, EXCLUDED, FENCED, STALE and FAILSAFE are set while their conditions hold (R41, R111, R130, R166). -/
def Obligations.ConditionFlagsFollowTheirConditions : Prop :=
  ∀ s t : State, RestInv s → FlagsInv s → step s = .next t → FlagsInv t
end

