-- ==== Sys2Proof/Laws/State.lean ====
section
/-! SUPPORT. Each field of the state after each update of one block: what the update writes and what it leaves. All hold
by definition, so no later proof unfolds a record update. -/

namespace Sys2Proof.Machine

open Sys2Proof

section
variable (s : State) (f : Sbi → Sbi)

@[simp] theorem State.modSbi_pending : (s.modSbi f).pending = s.pending := rfl
@[simp] theorem State.modSbi_loader : (s.modSbi f).loader = s.loader := rfl
@[simp] theorem State.modSbi_sbi : (s.modSbi f).sbi = f s.sbi := rfl
@[simp] theorem State.modSbi_census : (s.modSbi f).census = s.census := rfl
@[simp] theorem State.modSbi_alloc : (s.modSbi f).alloc = s.alloc := rfl
@[simp] theorem State.modSbi_ctl : (s.modSbi f).ctl = s.ctl := rfl
@[simp] theorem State.modSbi_monitors : (s.modSbi f).monitors = s.monitors := rfl
@[simp] theorem State.modSbi_store : (s.modSbi f).store = s.store := rfl
@[simp] theorem State.modSbi_meter : (s.modSbi f).meter = s.meter := rfl
@[simp] theorem State.modSbi_mgmt : (s.modSbi f).mgmt = s.mgmt := rfl
@[simp] theorem State.modSbi_sent : (s.modSbi f).sent = s.sent := rfl
@[simp] theorem State.modSbi_resetLow : (s.modSbi f).resetLow = s.resetLow := rfl

end

section
variable (s : State) (f : Census → Census)

@[simp] theorem State.modCensus_pending : (s.modCensus f).pending = s.pending := rfl
@[simp] theorem State.modCensus_loader : (s.modCensus f).loader = s.loader := rfl
@[simp] theorem State.modCensus_sbi : (s.modCensus f).sbi = s.sbi := rfl
@[simp] theorem State.modCensus_census : (s.modCensus f).census = f s.census := rfl
@[simp] theorem State.modCensus_alloc : (s.modCensus f).alloc = s.alloc := rfl
@[simp] theorem State.modCensus_ctl : (s.modCensus f).ctl = s.ctl := rfl
@[simp] theorem State.modCensus_monitors : (s.modCensus f).monitors = s.monitors := rfl
@[simp] theorem State.modCensus_store : (s.modCensus f).store = s.store := rfl
@[simp] theorem State.modCensus_meter : (s.modCensus f).meter = s.meter := rfl
@[simp] theorem State.modCensus_mgmt : (s.modCensus f).mgmt = s.mgmt := rfl
@[simp] theorem State.modCensus_sent : (s.modCensus f).sent = s.sent := rfl
@[simp] theorem State.modCensus_resetLow : (s.modCensus f).resetLow = s.resetLow := rfl

end

section
variable (s : State) (f : Alloc → Alloc)

@[simp] theorem State.modAlloc_pending : (s.modAlloc f).pending = s.pending := rfl
@[simp] theorem State.modAlloc_loader : (s.modAlloc f).loader = s.loader := rfl
@[simp] theorem State.modAlloc_sbi : (s.modAlloc f).sbi = s.sbi := rfl
@[simp] theorem State.modAlloc_census : (s.modAlloc f).census = s.census := rfl
@[simp] theorem State.modAlloc_alloc : (s.modAlloc f).alloc = f s.alloc := rfl
@[simp] theorem State.modAlloc_ctl : (s.modAlloc f).ctl = s.ctl := rfl
@[simp] theorem State.modAlloc_monitors : (s.modAlloc f).monitors = s.monitors := rfl
@[simp] theorem State.modAlloc_store : (s.modAlloc f).store = s.store := rfl
@[simp] theorem State.modAlloc_meter : (s.modAlloc f).meter = s.meter := rfl
@[simp] theorem State.modAlloc_mgmt : (s.modAlloc f).mgmt = s.mgmt := rfl
@[simp] theorem State.modAlloc_sent : (s.modAlloc f).sent = s.sent := rfl
@[simp] theorem State.modAlloc_resetLow : (s.modAlloc f).resetLow = s.resetLow := rfl

end

section
variable (s : State) (f : Control → Control)

@[simp] theorem State.modCtl_pending : (s.modCtl f).pending = s.pending := rfl
@[simp] theorem State.modCtl_loader : (s.modCtl f).loader = s.loader := rfl
@[simp] theorem State.modCtl_sbi : (s.modCtl f).sbi = s.sbi := rfl
@[simp] theorem State.modCtl_census : (s.modCtl f).census = s.census := rfl
@[simp] theorem State.modCtl_alloc : (s.modCtl f).alloc = s.alloc := rfl
@[simp] theorem State.modCtl_ctl : (s.modCtl f).ctl = f s.ctl := rfl
@[simp] theorem State.modCtl_monitors : (s.modCtl f).monitors = s.monitors := rfl
@[simp] theorem State.modCtl_store : (s.modCtl f).store = s.store := rfl
@[simp] theorem State.modCtl_meter : (s.modCtl f).meter = s.meter := rfl
@[simp] theorem State.modCtl_mgmt : (s.modCtl f).mgmt = s.mgmt := rfl
@[simp] theorem State.modCtl_sent : (s.modCtl f).sent = s.sent := rfl
@[simp] theorem State.modCtl_resetLow : (s.modCtl f).resetLow = s.resetLow := rfl

end

section
variable (s : State) (f : Loader → Loader)

@[simp] theorem State.modLoader_pending : (s.modLoader f).pending = s.pending := rfl
@[simp] theorem State.modLoader_loader : (s.modLoader f).loader = f s.loader := rfl
@[simp] theorem State.modLoader_sbi : (s.modLoader f).sbi = s.sbi := rfl
@[simp] theorem State.modLoader_census : (s.modLoader f).census = s.census := rfl
@[simp] theorem State.modLoader_alloc : (s.modLoader f).alloc = s.alloc := rfl
@[simp] theorem State.modLoader_ctl : (s.modLoader f).ctl = s.ctl := rfl
@[simp] theorem State.modLoader_monitors : (s.modLoader f).monitors = s.monitors := rfl
@[simp] theorem State.modLoader_store : (s.modLoader f).store = s.store := rfl
@[simp] theorem State.modLoader_meter : (s.modLoader f).meter = s.meter := rfl
@[simp] theorem State.modLoader_mgmt : (s.modLoader f).mgmt = s.mgmt := rfl
@[simp] theorem State.modLoader_sent : (s.modLoader f).sent = s.sent := rfl
@[simp] theorem State.modLoader_resetLow : (s.modLoader f).resetLow = s.resetLow := rfl

end

section
variable (s : State) (f : Store → Store)

@[simp] theorem State.modStore_pending : (s.modStore f).pending = s.pending := rfl
@[simp] theorem State.modStore_loader : (s.modStore f).loader = s.loader := rfl
@[simp] theorem State.modStore_sbi : (s.modStore f).sbi = s.sbi := rfl
@[simp] theorem State.modStore_census : (s.modStore f).census = s.census := rfl
@[simp] theorem State.modStore_alloc : (s.modStore f).alloc = s.alloc := rfl
@[simp] theorem State.modStore_ctl : (s.modStore f).ctl = s.ctl := rfl
@[simp] theorem State.modStore_monitors : (s.modStore f).monitors = s.monitors := rfl
@[simp] theorem State.modStore_store : (s.modStore f).store = f s.store := rfl
@[simp] theorem State.modStore_meter : (s.modStore f).meter = s.meter := rfl
@[simp] theorem State.modStore_mgmt : (s.modStore f).mgmt = s.mgmt := rfl
@[simp] theorem State.modStore_sent : (s.modStore f).sent = s.sent := rfl
@[simp] theorem State.modStore_resetLow : (s.modStore f).resetLow = s.resetLow := rfl

end

section
variable (s : State) (f : Meter → Meter)

@[simp] theorem State.modMeter_pending : (s.modMeter f).pending = s.pending := rfl
@[simp] theorem State.modMeter_loader : (s.modMeter f).loader = s.loader := rfl
@[simp] theorem State.modMeter_sbi : (s.modMeter f).sbi = s.sbi := rfl
@[simp] theorem State.modMeter_census : (s.modMeter f).census = s.census := rfl
@[simp] theorem State.modMeter_alloc : (s.modMeter f).alloc = s.alloc := rfl
@[simp] theorem State.modMeter_ctl : (s.modMeter f).ctl = s.ctl := rfl
@[simp] theorem State.modMeter_monitors : (s.modMeter f).monitors = s.monitors := rfl
@[simp] theorem State.modMeter_store : (s.modMeter f).store = s.store := rfl
@[simp] theorem State.modMeter_meter : (s.modMeter f).meter = f s.meter := rfl
@[simp] theorem State.modMeter_mgmt : (s.modMeter f).mgmt = s.mgmt := rfl
@[simp] theorem State.modMeter_sent : (s.modMeter f).sent = s.sent := rfl
@[simp] theorem State.modMeter_resetLow : (s.modMeter f).resetLow = s.resetLow := rfl

end

section
variable (s : State) (f : Mgmt → Mgmt)

@[simp] theorem State.modMgmt_pending : (s.modMgmt f).pending = s.pending := rfl
@[simp] theorem State.modMgmt_loader : (s.modMgmt f).loader = s.loader := rfl
@[simp] theorem State.modMgmt_sbi : (s.modMgmt f).sbi = s.sbi := rfl
@[simp] theorem State.modMgmt_census : (s.modMgmt f).census = s.census := rfl
@[simp] theorem State.modMgmt_alloc : (s.modMgmt f).alloc = s.alloc := rfl
@[simp] theorem State.modMgmt_ctl : (s.modMgmt f).ctl = s.ctl := rfl
@[simp] theorem State.modMgmt_monitors : (s.modMgmt f).monitors = s.monitors := rfl
@[simp] theorem State.modMgmt_store : (s.modMgmt f).store = s.store := rfl
@[simp] theorem State.modMgmt_meter : (s.modMgmt f).meter = s.meter := rfl
@[simp] theorem State.modMgmt_mgmt : (s.modMgmt f).mgmt = f s.mgmt := rfl
@[simp] theorem State.modMgmt_sent : (s.modMgmt f).sent = s.sent := rfl
@[simp] theorem State.modMgmt_resetLow : (s.modMgmt f).resetLow = s.resetLow := rfl

end

section
variable (s : State) (f : Fin 4 → Monitor → Monitor)

@[simp] theorem State.modMonitors_pending : (s.modMonitors f).pending = s.pending := rfl
@[simp] theorem State.modMonitors_loader : (s.modMonitors f).loader = s.loader := rfl
@[simp] theorem State.modMonitors_sbi : (s.modMonitors f).sbi = s.sbi := rfl
@[simp] theorem State.modMonitors_census : (s.modMonitors f).census = s.census := rfl
@[simp] theorem State.modMonitors_alloc : (s.modMonitors f).alloc = s.alloc := rfl
@[simp] theorem State.modMonitors_ctl : (s.modMonitors f).ctl = s.ctl := rfl
@[simp] theorem State.modMonitors_monitors : (s.modMonitors f).monitors = Vector.ofFn fun t => f t s.monitors[t] := rfl
@[simp] theorem State.modMonitors_store : (s.modMonitors f).store = s.store := rfl
@[simp] theorem State.modMonitors_meter : (s.modMonitors f).meter = s.meter := rfl
@[simp] theorem State.modMonitors_mgmt : (s.modMonitors f).mgmt = s.mgmt := rfl
@[simp] theorem State.modMonitors_sent : (s.modMonitors f).sent = s.sent := rfl
@[simp] theorem State.modMonitors_resetLow : (s.modMonitors f).resetLow = s.resetLow := rfl

end

section
variable (s : State) (m : LinkMessage)

@[simp] theorem State.send_pending : (s.send m).pending = s.pending := rfl
@[simp] theorem State.send_loader : (s.send m).loader = s.loader := rfl
@[simp] theorem State.send_sbi : (s.send m).sbi = s.sbi := rfl
@[simp] theorem State.send_census : (s.send m).census = s.census := rfl
@[simp] theorem State.send_alloc : (s.send m).alloc = s.alloc := rfl
@[simp] theorem State.send_ctl : (s.send m).ctl = s.ctl := rfl
@[simp] theorem State.send_monitors : (s.send m).monitors = s.monitors := rfl
@[simp] theorem State.send_store : (s.send m).store = s.store := rfl
@[simp] theorem State.send_meter : (s.send m).meter = s.meter := rfl
@[simp] theorem State.send_mgmt : (s.send m).mgmt = s.mgmt := rfl
@[simp] theorem State.send_sent : (s.send m).sent = s.sent ++ [m] := rfl
@[simp] theorem State.send_resetLow : (s.send m).resetLow = s.resetLow := rfl

end

section
variable (s : State) (st : StationState)

@[simp] theorem State.enterState_pending : (s.enterState st).pending = s.pending := rfl
@[simp] theorem State.enterState_loader : (s.enterState st).loader = s.loader := rfl
@[simp] theorem State.enterState_sbi : (s.enterState st).sbi = s.sbi.releaseFor st := rfl
@[simp] theorem State.enterState_census : (s.enterState st).census = s.census := rfl
@[simp] theorem State.enterState_alloc : (s.enterState st).alloc = s.alloc := rfl
@[simp] theorem State.enterState_ctl : (s.enterState st).ctl = { s.ctl with station := st } := rfl
@[simp] theorem State.enterState_monitors : (s.enterState st).monitors = s.monitors := rfl
@[simp] theorem State.enterState_store : (s.enterState st).store = s.store := rfl
@[simp] theorem State.enterState_meter : (s.enterState st).meter = s.meter.enter st := rfl
@[simp] theorem State.enterState_mgmt : (s.enterState st).mgmt = s.mgmt := rfl
@[simp] theorem State.enterState_sent : (s.enterState st).sent = s.sent := rfl
@[simp] theorem State.enterState_resetLow : (s.enterState st).resetLow = s.resetLow := rfl

end

section
variable (s : State) (d : Nat)

@[simp] theorem State.passTime_pending : (s.passTime d).pending = s.pending := rfl
@[simp] theorem State.passTime_loader : (s.passTime d).loader = s.loader := rfl
@[simp] theorem State.passTime_sbi : (s.passTime d).sbi = s.sbi.passTime s.epochBitTimes d := rfl
@[simp] theorem State.passTime_census : (s.passTime d).census = s.census := rfl
@[simp] theorem State.passTime_alloc : (s.passTime d).alloc = s.alloc := rfl
@[simp] theorem State.passTime_ctl : (s.passTime d).ctl = s.ctl := rfl
@[simp] theorem State.passTime_monitors : (s.passTime d).monitors = s.monitors := rfl
@[simp] theorem State.passTime_store : (s.passTime d).store = s.store := rfl
@[simp] theorem State.passTime_meter : (s.passTime d).meter = s.meter.passTime d := rfl
@[simp] theorem State.passTime_mgmt : (s.passTime d).mgmt = s.mgmt := rfl
@[simp] theorem State.passTime_sent : (s.passTime d).sent = s.sent := rfl
@[simp] theorem State.passTime_resetLow : (s.passTime d).resetLow = s.resetLow := rfl

end

end Sys2Proof.Machine
end

