-- ==== Sys2Proof/Laws/Blocks.lean ====
section
/-! SUPPORT. What the operations of the pacer's time, of the configuration memory port, of the settle's hand-over, of a
transaction at the management port, of two-byte fields and of cells served in order can do, said once for each. -/

namespace Sys2Proof.Machine

open Sys2Proof

/-- The time to the pacer's next step passes as any time does, and one interval is taken from the time counted. -/
theorem State.reachStep_eq (s : State) (h : s.meter.running = true) :
    s.reachStep = { s.passTime s.untilStep with
      meter := { s.meter with sinceStep := s.meter.sinceStep - s.settings.stepInterval } } := by
  have e : s.meter.sinceStep + s.untilStep - s.settings.stepInterval = s.meter.sinceStep - s.settings.stepInterval := by
    unfold State.untilStep; omega
  simp only [State.reachStep, State.modMeter, State.passTime, Meter.passTime, h, if_true]
  rw [e]

/-- No time passes to a step that is due. -/
theorem State.untilStep_due (s : State) (h : s.settings.stepInterval ≤ s.meter.sinceStep) : s.untilStep = 0 :=
  Nat.sub_eq_zero_of_le h

/-- The end of a read: CFG_SEL high, and no more of the section. -/
theorem Loader.endRead_eq (l : Loader) :
    l.endRead = { l with data := [], cfgSelected := false, cfgCommand := [], port := l.port ++ [.selectHigh] } := rfl

/-- From one section to the next, CFG_SEL goes high, then low, and the read command is sent. -/
theorem State.beginRead_eq (s : State) (phase : LoadPhase) (g : Granules) :
    s.beginRead phase g = { s with loader := { s.loader with
      data := [], phase := phase, reading := g, cfgSelected := true, cfgCommand := readCommand g.start
      port := s.loader.port ++ [.selectHigh, .selectLow, .send (readCommand g.start)] } } := by
  simp [State.beginRead, State.modLoader, Loader.endRead, Loader.startRead]

/-- CFG_CLK is held low outside Booting and while RESET is low. -/
theorem State.cfgClockHeldLow_iff (s : State) :
    s.cfgClockHeldLow = true ↔ s.ctl.station ≠ .booting ∨ s.resetLow = true := by
  cases h : s.resetLow <;> simp [State.cfgClockHeldLow, h]

/-- A settle in flight reads what was handed to it. -/
theorem State.handedOver_of_some (s : State) (c : Census) (h : s.alloc.handOver = some c) :
    s.handedOver = { s with census := c } := by
  simp [State.handedOver, h]

/-- Counting an ignored directive leaves the allocation. -/
theorem State.countIgnored_alloc (s : State) (d : Option DirectiveFrame) : (s.countIgnored d).alloc = s.alloc := by
  unfold State.countIgnored
  repeat' split
  all_goals rfl

/-- A completed settle writes the allocation, from what was handed to it, and what counts an ignored directive. -/
theorem State.completeSettle_alloc (s : State) (c : Census) (h : s.alloc.handOver = some c) :
    s.completeSettle.alloc = { s.alloc with
      pending := some ({ s with census := c } : State).settledRecord, pendingVoid := 0, settle := .complete
      handOver := none } := by
  simp only [State.completeSettle, State.modAlloc, s.handedOver_of_some c h, s.countIgnored_alloc]

/-- A read transaction returns as many bytes as it asks for. -/
theorem State.readTransaction_length (s : State) (n : Nat) : (s.readTransaction n).length = n := by
  simp [State.readTransaction]

/-- So does one that a reset cuts. -/
theorem State.readTransactionReset_length (s : State) (n k : Nat) : (s.readTransactionReset n k).length = n := by
  simp [State.readTransactionReset, s.readTransaction_length]; omega

/-- A frame is addressed to the station exactly when its first byte is acknowledged as the address of a write. -/
theorem State.addressed_cons (s : State) (b : Byte) (bytes : List Byte) :
    s.addressed (b :: bytes) = (s.acknowledges (b.extractLsb' 1 7) && !b.getLsbD 0) := by
  have h : ∀ (k : StationNo) (b : Byte), (b == writeAddress k) =
      ((b.extractLsb' 1 7 == BitVec.ofNat 7 (0x40 + k.toNat)) && !b.getLsbD 0) := by decide +kernel
  have e : (some b == some (writeAddress s.own)) = (b == writeAddress s.own) := rfl
  simp only [State.addressed, State.acknowledges, List.head?_cons, e, h, Bool.and_assoc]

/-- The bytes of a write add up in the order they came. -/
theorem State.portByte_foldl (s : State) (bytes : List Byte) (sent : List Byte) :
    bytes.foldl State.portByte (s.setTransaction (.receiving sent)) = s.setTransaction (.receiving (sent ++ bytes)) := by
  induction bytes generalizing sent with
  | nil => simp
  | cons b bytes ih =>
    have e : (s.setTransaction (.receiving sent)).portByte b = s.setTransaction (.receiving (sent ++ [b])) := rfl
    rw [List.foldl_cons, e, ih, List.append_assoc, List.singleton_append]

/-- With no transaction in progress the bytes that come are not taken. -/
theorem State.portByte_foldl_idle (s : State) (bytes : List Byte) (h : s.mgmt.transaction = .idle) :
    bytes.foldl State.portByte s = s := by
  induction bytes with
  | nil => rfl
  | cons b bytes ih =>
    have e : s.portByte b = s := by unfold State.portByte; rw [h]
    rw [List.foldl_cons, e, ih]

/-- Read byte by byte, a response comes whole and released bits follow. -/
theorem State.portReads_sending (s : State) (n : Nat) (rest : List Byte) :
    State.portReads n (s.setTransaction (.sending rest)) = (List.range n).map fun i => rest.getD i 0xFF := by
  induction n generalizing rest with
  | zero => rfl
  | succ n ih =>
    have e : (s.setTransaction (.sending rest)).portNext = s.setTransaction (.sending rest.tail) := rfl
    rw [List.range_succ_eq_map, List.map_cons, List.map_map, State.portReads, e, ih]
    cases rest <;> simp [State.portRead, State.setTransaction, State.modMgmt, Function.comp_def, List.map_const']

/-- A read transaction byte by byte returns what it returns as a whole. -/
theorem State.portReads_address (s : State) (n : Nat) (address : Byte)
    (h : s.acknowledges (address.extractLsb' 1 7) = true) (d : address.getLsbD 0 = true) :
    (s.portAddress address).portReads n = s.readTransaction n := by
  simp only [State.portAddress, h, d, if_true, State.portReads_sending, State.readTransaction]

/-- The two bytes of a value, the most significant first. -/
theorem bytes16_eq (x : BitVec 16) : bytes16 x = [byte (x.toNat / 256), byte (x.toNat % 256)] := by
  have high : byte (x.toNat / 256) = x.extractLsb' 8 8 := BitVec.eq_of_toNat_eq (by
    simp [byte, BitVec.extractLsb'_toNat, Nat.shiftRight_eq_div_pow])
  have low : byte (x.toNat % 256) = x.extractLsb' 0 8 := BitVec.eq_of_toNat_eq (by
    simp [byte, BitVec.extractLsb'_toNat])
  rw [bytes16, high, low]

/-- Two bytes read back are the value they were written from. -/
theorem word16At_bytes16 (x : BitVec 16) (before after : List Byte) :
    word16At (before ++ bytes16 x ++ after) before.length = x := by
  have e : x.extractLsb' 8 8 ++ x.extractLsb' 0 8 = x := by ext i; simp; grind
  simp [word16At, byteAt, bytes16, e]

/-- Served in order, the first gets what it can and the others what is left. -/
theorem servedInOrder_cons (available a : Nat) (as : List Nat) :
    servedInOrder available (a :: as) = min a available :: servedInOrder (available - a) as := by
  simp [servedInOrder, List.mapIdx_cons, Nat.sub_sub]

/-- A served amount is never more than the smaller of what is asked and what there is, so the two forms of a remainder agree. -/
theorem servedInOrder_sub_min (available a : Nat) (as : List Nat) :
    servedInOrder (available - min a available) as = servedInOrder (available - a) as := by
  congr 1; omega

/-- What `serve` gives the cells it selects, in order. -/
theorem serve_selected (select : Cell → Bool) (amount : Cell → Nat) (h : ∀ c g, select { c with grant := g } = select c)
    (r : Nat) (cells : List Cell) :
    ((serve select amount r cells).1.filter select).map (·.grant) =
      List.zipWith (· + ·) ((cells.filter select).map (·.grant)) (servedInOrder r ((cells.filter select).map amount)) := by
  induction cells generalizing r with
  | nil => rfl
  | cons c cells ih =>
    cases hc : select c with
    | true => simp [serve, hc, h, ih, servedInOrder_cons, servedInOrder_sub_min]
    | false => simp [serve, hc, ih]

end Sys2Proof.Machine
end

