-- ==== Sys2Proof/Laws/Exec.lean ====
section
/-! SUPPORT. Every command has a next state in every state, and a step answers it. -/

namespace Sys2Proof.Machine

open Sys2Proof

/-- No command stops the station (notes/assumptions/2.md). -/
theorem exec_next (c : Instr) (s : State) : ∃ t, exec c s = .next t := by
  cases c <;> exact ⟨_, rfl⟩

/-- No step stops the station. -/
theorem step_next (s : State) : ∃ t, step s = .next t := by
  unfold step
  split
  · exact ⟨_, rfl⟩
  · exact exec_next _ _

/-- A step with commands waiting is the first command on the rest. -/
theorem step_cons (s : State) (c : Instr) (rest : List Instr) (h : s.pending = c :: rest) :
    step s = exec c { s with pending := rest } := by
  simp [step, h]

/-- A step with none waiting lets one bit time pass. -/
theorem step_nil (s : State) (h : s.pending = []) : step s = .next (s.passTime 1) := by
  simp [step, h]

end Sys2Proof.Machine
end

