-- ==== Sys2Proof/Laws/Ops.lean ====
section
/-! SUPPORT. What each shared operation of Machine/Ops.lean can do, said once: the state it leaves, as the state before
with the fields it writes. -/

namespace Sys2Proof.Machine

open Sys2Proof

/-- A state with its management port replaced by itself. -/
theorem State.with_mgmt (s : State) : { s with mgmt := s.mgmt } = s := rfl

theorem State.raise_eq (s : State) (e : Event) : s.raise e = { s with mgmt := s.mgmt.raise e } := rfl

/-- A flag raised on a condition writes the management port alone. -/
theorem State.raiseIf_eq (s : State) (c : Bool) (e : Event) :
    s.raiseIf c e = { s with mgmt := s.mgmt.raiseIf c e } := by cases c <;> rfl

theorem State.modCounters_eq (s : State) (f : Counters → Counters) :
    s.modCounters f = { s with mgmt := { s.mgmt with counters := f s.mgmt.counters } } := rfl

theorem State.recordBus_eq (s : State) (e : BusEvent) :
    s.recordBus e = { s with mgmt := { s.mgmt with bus := s.mgmt.bus.record e } } := rfl

theorem State.recordConfig_eq (s : State) (e : ConfigEvent) :
    s.recordConfig e = { s with mgmt := { s.mgmt with config := s.mgmt.config.record e } } := rfl

/-- New line faults, and LINE when its condition begins. -/
theorem State.setFaults_eq (s : State) (f : LineFaults) :
    s.setFaults f = { s with sbi := { s.sbi with faults := f }
                             mgmt := s.mgmt.raiseIf (!s.sbi.faults.any && f.any) .line } := by
  simp [State.setFaults, State.raiseIf_eq, State.modSbi]

/-- Expiries write the messages sent and the management port alone. -/
theorem State.reportExpired_eq (s : State) (ds : List Descriptor) (r : ExpiryReason) :
    s.reportExpired ds r =
      { s with sent := s.sent ++ ds.map fun (d : Descriptor) => LinkMessage.expired d.tag r
               mgmt := ({ s.mgmt with counters :=
                 { s.mgmt.counters with expiries := countUp ds.length s.mgmt.counters.expiries } }).raiseIf
                   (!ds.isEmpty) .expired } := by
  simp [State.reportExpired, State.raiseIf_eq, State.modCounters_eq]

/-- A flush writes the messages, the management port, and empties the queues. -/
theorem State.flush_eq (s : State) (r : ExpiryReason) :
    s.flush r =
      { s.reportExpired s.store.held r with store := s.store.empty } := by
  simp [State.flush, State.reportExpired_eq, State.modStore]

/-- The Directive Queue dropped. -/
theorem State.dropDirectives_eq (s : State) :
    s.dropDirectives = { s with ctl := { s.ctl with queue := [], awaiting := false }
                                mgmt := s.mgmt.raiseIf (!s.ctl.queue.isEmpty) .dirDrop } := by
  simp [State.dropDirectives, State.raiseIf_eq, State.modCtl]

/-- A drain ends only in Leaving, with an empty store. -/
theorem State.endDrainIfEmpty_cases (s : State) :
    (s.ctl.station = .leaving ∧ s.store.heldCount = 0 ∧ s.endDrainIfEmpty = s.endDrain) ∨ s.endDrainIfEmpty = s := by
  unfold State.endDrainIfEmpty
  split
  · next h => exact Or.inl ⟨h.1, h.2, rfl⟩
  · exact Or.inr rfl

/-- A stopped timer and a stopped pacer see no time pass. -/
theorem State.passTime_stopped (s : State) (d : Nat) (hb : s.sbi.running = false) (hm : s.meter.running = false) :
    s.passTime d = s := by
  simp [State.passTime, Sbi.passTime, Meter.passTime, hb, hm]

/-- No time passes in no bit times, when the timer stands within E_len and the phase is up to date. -/
theorem Sbi.passTime_timer (b : Sbi) (limit d : Nat) (h : b.running = true) :
    (b.passTime limit d).timer = min (b.timer + d) (max limit b.timer) := by
  simp [Sbi.passTime, h]

/-- Time never takes the timer past E_len. -/
theorem Sbi.passTime_le (b : Sbi) (limit d : Nat) (h : b.timer ≤ limit) : (b.passTime limit d).timer ≤ limit := by
  unfold Sbi.passTime
  split
  · simp only [max_eq_left h]; omega
  · exact h

/-- A saturating count never exceeds its maximum. -/
theorem satInc_le (max n : Nat) : satInc max n ≤ max := Nat.min_le_right _ _

/-- A counter never exceeds its maximum. -/
theorem countUp_le (k n : Nat) : countUp k n ≤ counterMax := Nat.min_le_right _ _

/-- Abandoning what is on the line keeps the rest of the SBI. -/
theorem Sbi.abandon_eq (b : Sbi) : b.abandon = { b with txBuffer := none, readback := .idle } := rfl

/-- The entry to a state permits no drive that the state does not (R19). -/
theorem Sbi.releaseFor_syncDrive (b : Sbi) (st : StationState) (h : drivesSync st = false) :
    (b.releaseFor st).syncDrive = .released := by
  simp [Sbi.releaseFor, h]

/-- VETO stays driven in Active alone (R19). -/
theorem Sbi.releaseFor_vetoDrive (b : Sbi) (st : StationState) (h : st ≠ .active) :
    (b.releaseFor st).vetoDrive = false := by
  cases st <;> simp_all [Sbi.releaseFor]

/-- The pacer runs after an entry exactly when the state releases (R154). -/
theorem Meter.enter_running (m : Meter) (st : StationState) : (m.enter st).running = releases st := by
  cases st <;> rfl

/-- No counter stays above 0 in a state whose entry drops credit (R151). -/
theorem Meter.enter_credits (m : Meter) (st : StationState) (h : dropsCredit st = true) (q : Fin 12) :
    (m.enter st).credits[q] ≤ 0 := by
  cases st <;> simp_all [Meter.enter, dropsCredit, releases]

end Sys2Proof.Machine
end

