-- ==== Sys2Proof/Laws/Frames.lean ====
section
/-! SUPPORT. What the work of the blocks leaves alone: the queue of commands, the loader and the RESET pin pass every
operation but the loader's own and the resets. -/

namespace Sys2Proof.Machine

open Sys2Proof

/-- The queue of commands, the loader and the RESET pin stand as they were. -/
structure State.Keeps (s t : State) : Prop where
  pending : t.pending = s.pending
  loader : t.loader = s.loader
  resetLow : t.resetLow = s.resetLow

namespace State.Keeps

theorem refl (s : State) : s.Keeps s := ⟨rfl, rfl, rfl⟩

theorem trans {s t u : State} (h : s.Keeps t) (k : t.Keeps u) : s.Keeps u :=
  ⟨k.pending.trans h.pending, k.loader.trans h.loader, k.resetLow.trans h.resetLow⟩

theorem modSbi (s : State) (f : Sbi → Sbi) : s.Keeps (s.modSbi f) := ⟨rfl, rfl, rfl⟩
theorem modCensus (s : State) (f : Census → Census) : s.Keeps (s.modCensus f) := ⟨rfl, rfl, rfl⟩
theorem modAlloc (s : State) (f : Alloc → Alloc) : s.Keeps (s.modAlloc f) := ⟨rfl, rfl, rfl⟩
theorem modCtl (s : State) (f : Control → Control) : s.Keeps (s.modCtl f) := ⟨rfl, rfl, rfl⟩
theorem modStore (s : State) (f : Store → Store) : s.Keeps (s.modStore f) := ⟨rfl, rfl, rfl⟩
theorem modMeter (s : State) (f : Meter → Meter) : s.Keeps (s.modMeter f) := ⟨rfl, rfl, rfl⟩
theorem modMgmt (s : State) (f : Mgmt → Mgmt) : s.Keeps (s.modMgmt f) := ⟨rfl, rfl, rfl⟩
theorem modMonitors (s : State) (f : Fin 4 → Monitor → Monitor) : s.Keeps (s.modMonitors f) := ⟨rfl, rfl, rfl⟩
theorem modCounters (s : State) (f : Counters → Counters) : s.Keeps (s.modCounters f) := ⟨rfl, rfl, rfl⟩
theorem send (s : State) (m : LinkMessage) : s.Keeps (s.send m) := ⟨rfl, rfl, rfl⟩
theorem raise (s : State) (e : Event) : s.Keeps (s.raise e) := ⟨rfl, rfl, rfl⟩
theorem raiseIf (s : State) (c : Bool) (e : Event) : s.Keeps (s.raiseIf c e) := by
  rw [State.raiseIf_eq]; exact ⟨rfl, rfl, rfl⟩
theorem enterState (s : State) (st : StationState) : s.Keeps (s.enterState st) := ⟨rfl, rfl, rfl⟩
theorem passTime (s : State) (d : Nat) : s.Keeps (s.passTime d) := ⟨rfl, rfl, rfl⟩
theorem reachStep (s : State) : s.Keeps s.reachStep := (passTime s _).trans (modMeter _ _)
theorem advanceTo (s : State) (t : Nat) : s.Keeps (s.advanceTo t) := ⟨rfl, rfl, rfl⟩
theorem setFaults (s : State) (f : LineFaults) : s.Keeps (s.setFaults f) := by
  rw [State.setFaults_eq]; exact ⟨rfl, rfl, rfl⟩
theorem reportExpired (s : State) (ds : List Descriptor) (r : ExpiryReason) : s.Keeps (s.reportExpired ds r) := by
  rw [State.reportExpired_eq]; exact ⟨rfl, rfl, rfl⟩
theorem flush (s : State) (r : ExpiryReason) : s.Keeps (s.flush r) := (reportExpired s _ r).trans (modStore _ _)
theorem dropDirectives (s : State) : s.Keeps s.dropDirectives := by
  rw [State.dropDirectives_eq]; exact ⟨rfl, rfl, rfl⟩
theorem endDrain (s : State) : s.Keeps s.endDrain :=
  ((flush s _).trans (dropDirectives _)).trans (enterState _ _)
theorem endDrainIfEmpty (s : State) : s.Keeps s.endDrainIfEmpty := by
  rcases s.endDrainIfEmpty_cases with ⟨_, _, h⟩ | h <;> rw [h]
  · exact endDrain s
  · exact refl s
theorem enterFenced (s : State) : s.Keeps s.enterFenced :=
  (((flush s _).trans (dropDirectives _)).trans (enterState _ _)).trans (raise _ _)
theorem enterExcluded (s : State) (c : Cause) : s.Keeps (s.enterExcluded c) :=
  ((((flush s _).trans (dropDirectives _)).trans (enterState _ _)).trans (modCtl _ _)).trans (raise _ _)
theorem enterJoining (s : State) : s.Keeps s.enterJoining := ⟨rfl, rfl, rfl⟩
theorem enterResync (s : State) : s.Keeps s.enterResync := ⟨rfl, rfl, rfl⟩
theorem enterActive (s : State) : s.Keeps s.enterActive := ⟨rfl, rfl, rfl⟩
theorem enterListening (s : State) : s.Keeps s.enterListening := ⟨rfl, rfl, rfl⟩

theorem voidAtCut (s : State) (v : Bool) : s.Keeps (s.voidAtCut v) := by
  cases v <;> exact ⟨rfl, rfl, rfl⟩
theorem promote (s : State) : s.Keeps s.promote := (modAlloc s _).trans (raiseIf _ _ _)
theorem completeDirective (s : State) (cut : Bool) : s.Keeps (s.completeDirective cut) := by
  unfold State.completeDirective
  split
  · split
    · exact modCtl _ _
    · exact (modCtl _ _).trans (raise _ _)
  · exact refl s
theorem endDrainIf (s : State) (c : Bool) : s.Keeps (s.endDrainIf c) := by
  unfold State.endDrainIf
  split
  · exact endDrainIfEmpty s
  · exact refl s
theorem age (s : State) : s.Keeps s.age := ((reportExpired s _ _).trans (modStore _ _)).trans (endDrainIf _ _)
theorem listenEpoch (s : State) (p : Bool) : s.Keeps (s.listenEpoch p) := by
  unfold State.listenEpoch
  repeat' split
  · exact (modCtl s _).trans (enterJoining _)
  · exact (modCtl s _).trans (enterExcluded _ _)
  · exact modCtl s _
theorem drainEpoch (s : State) : s.Keeps s.drainEpoch := by
  unfold State.drainEpoch
  split
  · exact (modCtl s _).trans (endDrain _)
  · exact modCtl s _
theorem matched (s : State) : s.Keeps s.matched := by
  unfold State.matched
  split
  · exact (modCtl s _).trans (enterActive _)
  · exact modCtl s _
theorem applyResult (s : State) : s.Keeps s.applyResult := by
  unfold State.applyResult
  split
  all_goals first
    | exact enterResync s
    | exact matched s
    | exact modCtl s _
    | exact enterActive s
    | exact refl s
theorem controlMark (s : State) (cut vetoed pass : Bool) : s.Keeps (s.controlMark cut vetoed pass) := by
  unfold State.controlMark
  repeat' split
  all_goals first
    | exact listenEpoch s pass
    | exact enterFenced s
    | exact applyResult s
    | exact drainEpoch s
    | exact enterJoining s
    | exact refl s
theorem markMonitors (s : State) : s.Keeps s.markMonitors := (modMonitors s _).trans (raiseIf _ _ _)
theorem reload (s : State) : s.Keeps s.reload := modMeter s _
theorem endEpoch (s : State) (cut : Bool) : s.Keeps (s.endEpoch cut) := by
  cases cut
  · exact (promote s).trans (completeDirective _ _)
  · exact ((voidAtCut s _).trans (promote _)).trans (completeDirective _ _)
theorem controlAndAge (s : State) (first : Bool) (f : State → State) (hf : ∀ t : State, t.Keeps (f t)) :
    s.Keeps (s.controlAndAge first f) := by
  cases first
  · exact (hf s).trans (age _)
  · exact (age s).trans (hf _)
theorem beginEpoch (s : State) : s.Keeps s.beginEpoch :=
  (((modStore s _).trans (markMonitors _)).trans (modCensus _ _)).trans (reload _)
theorem deliverMark (s : State) (ends cut first : Bool) : s.Keeps (s.deliverMark ends cut first) := by
  cases ends
  · exact (age s).trans (beginEpoch _)
  · exact ((endEpoch s cut).trans (controlAndAge _ _ _ fun t => controlMark t _ _ _)).trans (beginEpoch _)
theorem localMark (s : State) (first : Bool) : s.Keeps (s.localMark first) :=
  ((modCounters s _).trans (deliverMark _ _ _ _)).trans (modSbi _ _)
theorem timerExpired (s : State) (sync : Level) (first : Bool) : s.Keeps (s.timerExpired sync first) := by
  unfold State.timerExpired
  repeat' split
  · exact localMark s first
  · exact modSbi _ _
  · exact refl s
theorem tally (s : State) : s.Keeps s.tally := by
  unfold State.tally State.verdict State.outcome State.minorityVerdict State.setResult State.adopt
  repeat' split
  all_goals exact ⟨rfl, rfl, rfl⟩
theorem voidAtVeto (s : State) : s.Keeps s.voidAtVeto := ⟨rfl, rfl, rfl⟩
theorem handToSettle (s : State) : s.Keeps s.handToSettle := modAlloc s _
theorem countIgnored (s : State) (d : Option DirectiveFrame) : s.Keeps (s.countIgnored d) := by
  unfold State.countIgnored
  repeat' split
  all_goals exact ⟨rfl, rfl, rfl⟩
theorem completeSettle (s : State) : s.Keeps s.completeSettle := (countIgnored s _).trans (modAlloc _ _)

end State.Keeps

end Sys2Proof.Machine
end

