-- ==== Sys2Proof/WellFormed.lean ====
section
/-! DEFINITION. Well-formed commands: an operand lies in the range its event can have. A command outside it has its
meaning all the same; the range says which commands a bus or a port can produce. -/

namespace Sys2Proof

open Sys2Proof.Machine

/-- The bit times at which a frame is driven outside the lead and the tail: the start bit and the bits of the longer
frame, the notice (R26, R34). -/
def isDrivenBit (bitTime : Nat) : Bool := decide (20 ≤ bitTime) && decide (bitTime ≤ 364)

/-- The key bit times (R29, R30). -/
def isKeyBitTime (bitTime : Nat) : Bool := decide (21 ≤ bitTime) && decide (bitTime ≤ 26)

/-- A frame the port refuses or ignores in its strictest mode, which is what UNKNOWN_COMMAND stands for (R162). -/
def RawFrame.refusable (f : RawFrame) : Bool :=
  match judge .required true f.bytes f.offByte with
  | .taken _ _ => false
  | .ignored | .refused _ => true

/-- The bit time of a sample of VETO outside the veto window: its middle up to 69.9 µs or from 71.1 µs (R20, R39). -/
def isOutsideVeto (time : Nat) : Bool := decide (time < 6990) || decide (7110 ≤ time)

/-- Whether a command is one that its event can produce. -/
def Instr.wellFormed : Instr → Bool
  | .readbackMismatch bitTime => isDrivenBit bitTime
  | .arbitrationWithdraw bitTime => isKeyBitTime bitTime
  | .vetoLowFault time | .vetoLowClear time => isOutsideVeto time
  | .unknownCommand _ _ frame => frame.refusable
  | .linkMessageDiscard bytes => (InMessage.ofBytes bytes).isNone
  | .powerOnReset _ | .pinReset | .pinResetRelease _ | .restart _ _ | .granuleRead _ | .epochTimerExpiry _ _
  | .syncDriveEnd | .syncHighFault _ | .trueMark _ _ | .stall | .stallEnd _ | .censusSlotOpen _
  | .censusSlotClose _ _ _ | .sdatLowClear _ | .directiveWindowOpen | .directiveWindowClose _ | .vetoWindowOpen
  | .vetoSample _ | .settleStart | .settleComplete | .depart _ | .rejoin _ _ | .postDirective _ | .readView _
  | .clearEvents _ | .setEventMask _ | .clearCaptures _ | .clearCounters _ | .offer _ _ _ _ | .recall _
  | .occupancy _ _ | .pacerStep => true

end Sys2Proof
end

