-- ==== Sys2Proof/Tests/Slice0.lean ====
section
/-! SUPPORT. The model's own tests: ill-formed commands refused, the spec's worked examples, and for each statement of
Certificates/Slice0/Obligations.lean states and operands that meet its hypotheses, clause by clause. -/

namespace Sys2Proof.Tests

open Sys2Proof Sys2Proof.Machine

-- One proof at a time: each thread of its own takes a stack, and together they would pass the memory of a check.
set_option Elab.async false

/-! ### States to test on -/

/-- The state an outcome leads to. -/
def after (o : Host.Outcome State Fault Refusal) : State :=
  match o with
  | .next t => t
  | .fault _ | .refused _ => State.reset

/-- A plan of one target with one tier, its Journal entry for every station. -/
def smallPlan : Plan :=
  { epochLength := 100, targets := 1, capacity := Vector.replicate 4 1000, pressedPercent := Vector.replicate 4 60
    listenEpochs := 1, missLimit := 2, voidLimit := 2
    entries := [{ station := none, target := 0, cls := .journal, weight := 1, floor := 40, ceiling := 200
                  reserve := true, tierEnd := true }] }

/-- Settings with a ring of two slots, the second a stop. -/
def smallSettings : Settings :=
  { eventMask := 0, checkMode := .optional, ageLimit := 2, queueLimits := Vector.replicate 12 2
    banks := Vector.replicate 3 50
    ring := [{ target := 0, cls := .journal, skip := false, stop := false },
             { target := 0, cls := .capture, skip := true, stop := true }]
    stepInterval := 100, monitors := Vector.replicate 4 { high := 800, low := 500, debounce := 3 }, drainLimit := 3 }

/-- Station 5 in service, in a state of its life, in the idle phase of an epoch. -/
def live (st : StationState) : State :=
  { State.reset with
    loader := { Loader.reset with phase := .idle, plan := smallPlan, settings := smallSettings, strapped := 5
                                  cfgSelected := false, cfgCommand := [] }
    sbi := { Sbi.reset with running := true, phase := .idle, timer := 9600 }
    alloc := { Alloc.reset with standing := { Record.reset with grants := List.replicate 16 0 } }
    ctl := { Control.reset with station := st }
    monitors := (Vector.replicate 4 Monitor.reset).set 0 { Monitor.reset with state := .clear }
    meter := { Meter.reset with running := releases st } }

/-- A station in the middle of a load, station 5. -/
def booting : State := { State.reset with loader := { Loader.reset with strapped := 5 } }

/-- The same, the section of a phase read but for its last granule. -/
def reading (phase : LoadPhase) (granules : Nat) (data : List Byte) : State :=
  { booting with loader :=
    { booting.loader with phase := phase, reading := { start := 9, length := granules }, data := data } }

/-- A live station in a phase, at a time. -/
def inPhase (st : StationState) (p : Phase) (time : Nat) : State :=
  { live st with sbi := { (live st).sbi with phase := p, timer := time } }

/-- A Journal descriptor for target 0. -/
def journal (tag : Tag) (cells age : Nat) : Descriptor :=
  { tag := tag, target := 0, cls := .journal, length := 128 * cells, cells := cells, age := age }

/-- A state with Journal descriptors of target 0 held. -/
def holding (s : State) (ds : List Descriptor) : State :=
  { s with store := { s.store with queues := s.store.queues.set 0 ds } }

/-- A notice of station 9. -/
def nine : Notice :=
  { sender := 9, status := .active, seq := 60, voidCount := 0, pressure := 0, planDigest := 0, standingDigest := 7
    percents := Vector.replicate 4 100, evicted := 0, demands := Vector.replicate 12 0 }

/-- A directive of station 5 that sets the percent of target 0 to 50. -/
def halve : DirectiveFrame := { priority := 1, sender := 5, seq := 41, kind := .setPercent, operand := 0x0032 }

/-! ### Ill-formed commands are refused -/

theorem test_wellFormed_readback_below : (Instr.readbackMismatch 19).wellFormed = false := by decide
theorem test_wellFormed_readback_above : (Instr.readbackMismatch 365).wellFormed = false := by decide
theorem test_wellFormed_withdraw_below : (Instr.arbitrationWithdraw 20).wellFormed = false := by decide
theorem test_wellFormed_withdraw_above : (Instr.arbitrationWithdraw 27).wellFormed = false := by decide
theorem test_wellFormed_vetoLow_margin : (Instr.vetoLowFault 6990).wellFormed = false := by decide
theorem test_wellFormed_vetoClear_margin : (Instr.vetoLowClear 7109).wellFormed = false := by decide

/-- RESTART with its check byte is no unknown command: every check mode takes it, in Booting too. -/
theorem test_wellFormed_goodFrame :
    (Instr.unknownCommand 5 .recessive { bytes := frameBytes .restart (checkedFrame (live .active) .restart [])
                                         offByte := false }).wellFormed = false := by decide +kernel

/-- A RECALL of three bytes is no message to discard. -/
theorem test_wellFormed_goodMessage : (Instr.linkMessageDiscard [0x02, 0, 1]).wellFormed = false := by decide

theorem test_wellFormed_accepts :
    (Instr.readbackMismatch 20).wellFormed = true ∧ (Instr.readbackMismatch 364).wellFormed = true
      ∧ (Instr.arbitrationWithdraw 21).wellFormed = true ∧ (Instr.arbitrationWithdraw 26).wellFormed = true
      ∧ (Instr.vetoLowFault 6989).wellFormed = true ∧ (Instr.vetoLowClear 7110).wellFormed = true
      ∧ (Instr.linkMessageDiscard [0x02, 0]).wellFormed = true
      ∧ (Instr.unknownCommand 5 .recessive { bytes := [0x8A, 0x0A, 0x00], offByte := false }).wellFormed = true := by
  decide

/-! ### Worked examples of the spec -/

/-- The published check values of the three generators over the nine characters 1 to 9 (R172). -/
theorem test_checks_of_123456789 :
    managementCheck [0x31, 0x32, 0x33, 0x34, 0x35, 0x36, 0x37, 0x38, 0x39] = 0xBC
      ∧ frameCheck (bitsOfBytes [0x31, 0x32, 0x33, 0x34, 0x35, 0x36, 0x37, 0x38, 0x39]) = 0xAEE7
      ∧ digestOf [0x31, 0x32, 0x33, 0x34, 0x35, 0x36, 0x37, 0x38, 0x39] = 0xFC891918 := by
  decide +kernel

/-- The bytes of the notice of 12.7. -/
theorem test_notice_of_12_7 :
    ({ sender := 5, status := .active, seq := 60, voidCount := 0, pressure := 0, planDigest := 0x01020304
       standingDigest := 0x05060708, percents := Vector.replicate 4 100, evicted := 0
       demands := (((Vector.replicate 12 (0 : BitVec 16)).set 0 15).set 1 105) } : Notice).bytes =
      [0x52, 0x3C, 0x00, 1, 2, 3, 4, 5, 6, 7, 8, 0x64, 0x64, 0x64, 0x64, 0, 0, 0, 0x0F, 0, 0x69]
        ++ List.replicate 20 0 := by decide

/-- The plan fragment of 4.9: target 0 with entries E0 to E4. -/
def planOf49 : Plan :=
  { smallPlan with
    entries := [
      { station := none, target := 0, cls := .journal, weight := 1, floor := 40, ceiling := 200, reserve := true
        tierEnd := true },
      { station := some 2, target := 0, cls := .capture, weight := 3, floor := 100, ceiling := 600, reserve := false
        tierEnd := false },
      { station := some 5, target := 0, cls := .capture, weight := 2, floor := 100, ceiling := 600, reserve := false
        tierEnd := false },
      { station := some 9, target := 0, cls := .capture, weight := 1, floor := 50, ceiling := 400, reserve := false
        tierEnd := true },
      { station := none, target := 0, cls := .bulk, weight := 1, floor := 0, ceiling := 65535, reserve := false
        tierEnd := true }] }

/-- The demands of 4.9, with those of station 12 for Case 3. -/
def demandOf49 (k : StationNo) (q : Fin 12) : Nat :=
  if k = 2 then [10, 500, 300].getD q.val 0
  else if k = 5 then [120, 90, 0].getD q.val 0
  else if k = 9 then [0, 400, 200].getD q.val 0
  else if k = 12 then [100, 0, 50].getD q.val 0
  else 0

/-- The nonzero grants of a computation over the plan of 4.9, in plan position order. -/
def grantsOf49 (guests : StationMask) (capacity : Nat) : List Nat :=
  ((computeCells planOf49 (roleIn 0x0224 guests) demandOf49 (Vector.replicate 4 capacity)).map (·.grant)).filter (· != 0)

theorem test_allocation_case1 : grantsOf49 0 1000 = [40, 120, 40, 500, 90, 210] := by decide +kernel
theorem test_allocation_case2 : grantsOf49 0 300 = [40, 120, 40, 100] := by decide +kernel
theorem test_allocation_case3 : grantsOf49 0x1000 1000 = [40, 120, 40, 40, 490, 90, 180] := by decide +kernel

/-- Case 5: three wants of 100 in one tier share 10 cells as 4, 3 and 3. -/
theorem test_allocation_case5 :
    let e (k : StationNo) (last : Bool) : PlanEntry :=
      { station := some k, target := 0, cls := .bulk, weight := 1, floor := 0, ceiling := 100, reserve := false
        tierEnd := last }
    (computeCells { smallPlan with entries := [e 0 false, e 1 false, e 2 true] } (roleIn 7 0) (fun _ _ => 100)
      (Vector.replicate 4 10)).map (·.grant) = [4, 3, 3] := by decide +kernel

/-- The tiers of Case 1 and the one tier of Case 5 as the statements say them: floors, rounds and residue walk. -/
theorem test_tier_grants :
    let place (floor ceiling weight want : Nat) : Cell :=
      { place := { station := 0, target := 0, cls := .bulk, weight := weight, floor := floor, ceiling := ceiling
                   reserve := false, tier := 0 }, want := want, grant := 0 }
    tierGrants 1000 [place 40 200 1 40, place 40 200 1 120, place 40 200 1 40] = [40, 120, 40]
      ∧ tierGrants 800 [place 100 600 3 500, place 100 600 2 90, place 50 400 1 400] = [500, 90, 210]
      ∧ tierGrants 10 (List.replicate 3 (place 0 100 1 100)) = [4, 3, 3] := by decide

/-- Case 6: the Fallback allocation of members 2, 5 and 9. -/
theorem test_allocation_case6 :
    ((fallbackCells planOf49 (roleIn 0x0224 0) (Vector.replicate 4 1000)).map (·.grant)).filter (· != 0) =
      [40, 40, 40, 100, 100, 50] := by decide +kernel

/-- The reloads of 10.7. -/
theorem test_reloads_of_10_7 :
    reloaded 100 120 50 30 = 150 ∧ reloaded 100 90 20 (-40) = 50 ∧ reloaded 100 0 0 10 = 0 ∧ reloaded 0 0 50 15 = 0
      ∧ reloaded 0 0 20 (-8) = -8 := by decide

/-- The monitor of 8.7: the third of three readings at or above 800 takes Clear to Pressed, and 500 counts back. -/
theorem test_monitor_of_8_7 :
    ({ Monitor.reset with state := .clear, highCount := 2 } : Monitor).read { high := 800, low := 500, debounce := 3 } 800 =
        { Monitor.reset with state := .pressed, lastReading := 800 }
      ∧ ({ Monitor.reset with state := .pressed, lowCount := 2 } : Monitor).read { high := 800, low := 500, debounce := 3 }
          500 = { Monitor.reset with state := .clear, lastReading := 500 } := by decide

/-- A pacer step releases the head of the slot's queue and charges it (10.8, steps 1 and 2). -/
theorem test_pacer_releases :
    let s := holding (live .active) [journal 60 10 0, journal 61 72 0]
    let t := after (exec .pacerStep { s with meter := { s.meter with credits := s.meter.credits.set 0 150 } })
    t.meter.credits[(0 : Fin 12)] = 140 ∧ t.meter.position = 1 ∧ t.sent = [.release 60] ∧ t.store.history = [60] := by
  decide

/-- The first step after the pacer's start comes one interval later, at slot 0, and the next one interval after it, whatever
comes between (R154, R158). -/
theorem test_pacer_keeps_its_interval :
    let s := inPhase .active .idle 9600
    let t := after (exec .pacerStep s)
    let u := after (exec .pacerStep (t.advanceTo 9730))
    (t.sbi.timer = 9700 ∧ t.meter.sinceStep = 0 ∧ t.meter.position = 1)
      ∧ u.sbi.timer = 9800 ∧ u.meter.sinceStep = 0 ∧ u.meter.position = 0 ∧ u.meter.halt = true := by decide

/-- An offer for a target at or above T is refused BAD_FIELD (9.9, at 12.0 µs). -/
theorem test_offer_bad_target :
    (after (exec (.offer 42 1 0 512) (live .active))).sent = [.refused 42 .badField] := by decide

/-- Lengths of the three edge frames of 3.10: 72, 12 and 1 cells. -/
theorem test_cells_of_3_10 : cellsOf 9216 = 72 ∧ cellsOf 1500 = 12 ∧ cellsOf 64 = 1 := by decide

/-- The address byte of station 5, and its acknowledgement (R161). -/
theorem test_address :
    writeAddress 5 = 0x8A ∧ (live .active).acknowledges 0x45 = true ∧ (live .active).acknowledges 0x40 = false := by
  decide

/-- An empty response buffer reads NONE, its check byte, then released bits (R164). -/
theorem test_read_of_empty_buffer : (live .active).readTransaction 4 = [255, managementCheck [255], 255, 255] := by
  decide +kernel

/-- A ring slot byte: target 2, Bulk, stop (R175). -/
theorem test_ring_slot_byte :
    ({ target := 2, cls := .bulk, skip := false, stop := true } : RingSlot).byte = 0xA1 := by decide

/-- No word spells a command: the table gives its rows no bits. -/
theorem test_no_command_word : decodeTableWord 8 1 = none := rfl

/-! ### The hypotheses of the statements are met: steps, resets, loads -/

theorem witness_StepTakesTheFrontCommand :
    { live .active with pending := [.pacerStep, .stall] }.pending = .pacerStep :: [.stall] := rfl

/-- Time passes up to E_len, at the timer's last value too. -/
theorem witness_AnIdleStepLetsOneBitTimePass :
    (∀ time ∈ [9999, 10000], (inPhase .active .idle time).pending = [] ∧ SbiInv (inPhase .active .idle time))
      ∧ (live .active).sbi.running = true ∧ (live .active).sbi.timer ≤ 9600
      ∧ 10000 ≤ 100 * (live .active).plan.epochLength := by
  unfold SbiInv; decide

theorem witness_ResetsStartALoad :
    { live .active with resetLow := true }.resetLow = true ∧ (live .active).resetLow = false := ⟨rfl, rfl⟩

/-- A load that has just begun drives CFG_SEL low, and one that fails drives it high again (R2). -/
theorem test_port_of_a_failed_load :
    let s := after (exec (.powerOnReset 5) (live .active))
    let t := after (exec (.granuleRead 0x030000000000000000) s)
    s.loader.port = [.selectHigh, .selectLow, .send [3, 0, 0, 0]] ∧ s.cfgClockHeldLow = false
      ∧ t.ctl.cause = .ecc ∧ t.loader.port = [.selectHigh, .selectLow, .send [3, 0, 0, 0], .selectHigh]
      ∧ t.loader.cfgSelected = false ∧ t.cfgClockHeldLow = true := by decide +kernel

/-- The granule before the last of a section is taken as any other; the last one can be corrected too. -/
theorem witness_OneWrongBitOfAGranuleIsCorrected :
    (let s := reading .plan 3 (List.replicate 8 0)
     s.loader.phase ≠ .idle ∧ s.resetLow = false ∧ s.loader.data.length + 8 ≠ 8 * s.loader.reading.length)
      ∧ (let s := reading .plan 3 (List.replicate 16 0)
         s.loader.phase ≠ .idle ∧ s.resetLow = false) := by decide

theorem witness_TwoWrongBitsOfAGranuleEndTheLoad :
    let s := reading .header 9 []
    (0 : Fin 72) ≠ 71 ∧ RestInv s ∧ s.loader.phase ≠ .idle ∧ s.resetLow = false := by
  unfold RestInv State.blocksReset; decide

/-- A header of an identity, a plan entry, and the own local entry of station 5, less its last granule of zeros. -/
def headerData (identity : BitVec 32) (planStart planLength start length : Nat) : List Byte :=
  bytes32 identity ++ nat16 planStart ++ nat16 planLength ++ List.replicate 20 0 ++ nat16 start ++ nat16 length
    ++ List.replicate 32 0

/-- The header read whole, and its fields: identity, plan entry, local entry. -/
def headerFields (s : State) : BitVec 32 × List Nat :=
  let d := s.loader.data ++ List.replicate 8 0
  (word32At d 0, [nat16At d 4, nat16At d 6, nat16At d 28, nat16At d 30])

theorem test_zero_granule : checkGranule 0 = .clean 0 ∧ granuleBytes 0 = List.replicate 8 0 := by decide +kernel

/-- A load leaves the blocks at rest, whatever it has read. -/
theorem test_load_at_rest (s : State) (phase : LoadPhase) (granules : Nat) (data : List Byte) (plan : Plan)
    (h : s = { booting with loader := { (reading phase granules data).loader with stagedPlan := plan } }) : RestInv s := by
  subst h
  exact ⟨fun _ => rfl, fun _ => ⟨rfl, rfl, rfl, rfl, rfl, rfl, rfl, rfl, rfl, rfl, rfl, rfl⟩⟩

/-- Whatever the header's fields, its last granule can be about to be read. -/
theorem witness_HeaderIsCheckedInOrder (identity : BitVec 32) (a b c e : Nat) :
    let s := reading .header 9 (headerData identity a b c e)
    RestInv s ∧ s.loader.phase = .header ∧ s.own = 5
      ∧ s.lastGranule 0 (headerData identity a b c e ++ List.replicate 8 0) :=
  ⟨test_load_at_rest _ _ _ _ Plan.empty rfl, rfl, rfl, rfl, rfl, 0, test_zero_granule.1, by
    rw [test_zero_granule.2]; rfl⟩

/-- The fields at which the five outcomes of the header meet. -/
theorem witness_HeaderIsCheckedInOrder_clauses :
    ([(0x73161A0D, 9, 3, 9, 24), (0x73161A0C, 9, 2, 9, 24), (0x73161A0C, 8, 3, 9, 24), (0x73161A0C, 65534, 3, 9, 24),
      (0x73161A0C, 65533, 3, 9, 0), (0x73161A0C, 9, 3, 9, 23), (0x73161A0C, 9, 3, 8, 24), (0x73161A0C, 9, 3, 65513, 24),
      (0x73161A0C, 9, 3, 65512, 24)] : List (BitVec 32 × Nat × Nat × Nat × Nat)).all (fun (i, a, b, c, e) =>
        headerFields (reading .header 9 (headerData i a b c e)) == (i, [a, b, c, e])) = true := by decide +kernel

/-- A section with its digest. -/
def sealed (d : List Byte) : List Byte := d ++ bytes32 (digestOf d)

/-- The last eight bytes of a section. -/
def lastBytes (d : List Byte) : BitVec 64 := word32At d (d.length - 8) ++ word32At d (d.length - 4)

/-- Station 5 in a load, a section read but for its last granule. -/
def atLast (phase : LoadPhase) (d : List Byte) : State :=
  let s := reading phase (d.length / 8) (d.take (d.length - 8))
  { s with loader := { s.loader with stagedPlan := smallPlan } }

/-- A plan header whose entry count is 1. -/
def planHeaderData : List Byte :=
  nat16 100 ++ [1] ++ nat16 1000 ++ nat16 1 ++ nat16 1 ++ nat16 65535 ++ [25, 100, 25, 100, 1, 1, 1, 1]

/-- A plan section of one entry, with padding, in five granules. -/
def planSection : List Byte :=
  sealed (planHeaderData ++ [255, 0, 0, 1] ++ nat16 40 ++ nat16 200 ++ [1, 1] ++ List.replicate 7 0)

/-- A local section of station 5 of one ring slot, with a step interval, in 24 granules. -/
def localSection (interval : Nat) : List Byte :=
  sealed ([5, 0, 0, 1, 1] ++ (List.replicate 12 (nat16 512)).flatten ++ nat16 4095 ++ nat16 0 ++ nat16 50 ++ [1]
    ++ List.replicate 128 0 ++ nat16 interval ++ (List.replicate 4 (nat16 1 ++ nat16 0 ++ [8])).flatten ++ [1, 0])

/-- A section's last granule is clean, and completes it. -/
theorem test_lastGranule (phase : LoadPhase) (d : List Byte)
    (h : d.length = 8 * (d.length / 8) ∧ 8 ≤ d.length ∧ checkGranule (encodeGranule (lastBytes d)) = .clean (lastBytes d)
      ∧ d = d.take (d.length - 8) ++ granuleBytes (lastBytes d)) :
    (atLast phase d).lastGranule (encodeGranule (lastBytes d)) d := by
  refine ⟨rfl, ?_, lastBytes d, h.2.2.1, h.2.2.2⟩
  show (d.take (d.length - 8)).length + 8 = 8 * (d.length / 8)
  rw [List.length_take]
  omega

/-- A plan whose digest is wrong, one too short for its one entry, and one that passes. -/
theorem witness_PlanSectionIsVerifiedThenValidated :
    (∀ d ∈ [List.replicate 24 0, sealed (planHeaderData ++ [0]), planSection],
      RestInv (atLast .plan d) ∧ (atLast .plan d).loader.phase = .plan
        ∧ (atLast .plan d).lastGranule (encodeGranule (lastBytes d)) d)
      ∧ sectionDigest (List.replicate 24 0) ≠ storedDigest (List.replicate 24 0)
      ∧ sectionDigest (sealed (planHeaderData ++ [0])) = storedDigest (sealed (planHeaderData ++ [0]))
      ∧ firstFailure (planChecks (sealed (planHeaderData ++ [0]))) = some 18
      ∧ sectionDigest planSection = storedDigest planSection ∧ firstFailure (planChecks planSection) = none := by
  refine ⟨fun d h => ⟨test_load_at_rest _ _ _ _ smallPlan rfl, rfl, test_lastGranule _ _ ?_⟩, ?_⟩
  · revert d; decide +kernel
  · decide +kernel

theorem witness_LocalSectionEndsTheLoad :
    (∀ d ∈ [List.replicate 192 0, localSection 501, localSection 500],
      RestInv (atLast .localPhase d) ∧ (atLast .localPhase d).loader.phase = .localPhase
        ∧ (atLast .localPhase d).lastGranule (encodeGranule (lastBytes d)) d)
      ∧ sectionDigest (List.replicate 192 0) ≠ storedDigest (List.replicate 192 0)
      ∧ sectionDigest (localSection 501) = storedDigest (localSection 501)
      ∧ firstFailure (localChecks (localSection 501) 5 1) = some 164
      ∧ sectionDigest (localSection 500) = storedDigest (localSection 500)
      ∧ firstFailure (localChecks (localSection 500) 5 1) = none := by
  refine ⟨fun d h => ⟨test_load_at_rest _ _ _ _ smallPlan rfl, rfl, test_lastGranule _ _ ?_⟩, ?_⟩
  · revert d; decide +kernel
  · decide +kernel

/-- Sections that pass, with an entry and a ring slot; a plan that fails at its entry count, and settings that fail at the
step interval. -/
theorem witness_AcceptedSectionsAreWithinTheirRanges :
    (firstFailure (planChecks planSection) = none ∧ (planOf planSection).entries.length = 1)
      ∧ (firstFailure (localChecks (localSection 500) 5 1) = none ∧ (settingsOf (localSection 500)).ring.length = 1)
      ∧ firstFailure (planChecks (planHeaderData ++ [0])) = some 18
      ∧ firstFailure (localChecks (localSection 0) 5 1) = some 164 := by
  decide +kernel

/-! ### The hypotheses of the statements are met: marks and stalls -/

/-- An active station whose SYNC line is stuck low, at E_len. -/
def stuck : State :=
  let s := inPhase .active .stalled 10000
  { s with sbi := { s.sbi with faults := { LineFaults.none with syncLow := true } } }

/-- A record that evicts a set. -/
def evicting (mask : StationMask) : Record := { Record.reset with admin := { Admin.reset with evicted := mask } }

/-- A station in the idle phase of a clear epoch, a record pending. -/
def settled (st : StationState) (r : Record) : State :=
  let s := inPhase st .idle 9600
  { s with alloc := { s.alloc with pending := some r, settle := .complete } }

theorem witness_TimerExpiryDrivesSyncOrMarks :
    (drivesSync .active = true ∧ (live .active).sbi.faults.syncLow = false) ∧ drivesSync .quiet = false
      ∧ drivesSync stuck.ctl.station = true ∧ stuck.sbi.faults.syncLow = true ∧ stuck.sbi.phase = .stalled := by decide

theorem witness_SyncHighFaultIsALocalMark :
    (after (exec (.epochTimerExpiry .recessive false) (live .active))).sbi.syncDrive = .attempting := by decide

/-- A true mark at the timer's reading and at E_len. -/
theorem witness_TrueMarkRestartsTheEpoch : (live .quiet).markAt 9600 ∧ (live .listening).markAt 10000 := by
  unfold State.markAt; decide

/-- The first time that does not cut; and a mark out of Unaligned. -/
theorem witness_UncutMarkPromotesThePendingRecord :
    (let s := settled .active (evicting 0)
     s.uncutAt 9600 ∧ s.alloc.settle = .complete ∧ s.alloc.pending = some (evicting 0))
      ∧ (inPhase .listening .unaligned 0).markAt 0 ∧ (inPhase .listening .unaligned 0).sbi.phase = .unaligned
      ∧ (inPhase .listening .unaligned 0).ctl.station = .listening := by
  unfold State.uncutAt State.markAt; decide

/-- The last time that cuts; and marks out of Stalled and Suspended at E_len; the local marks are `witness_local_marks`. -/
theorem witness_CutMarkPromotesTheVoidRecord :
    (inPhase .active .settle 7200).cutBy (.trueMark 9599 false) false
      ∧ (inPhase .joining .stalled 9600).cutBy (.trueMark 10000 true) true
      ∧ (inPhase .listening .suspended 9600).cutBy (.trueMark 10000 true) true
      ∧ (inPhase .quiet .suspended 9600).cutBy (.trueMark 10000 true) true
      ∧ stuck.cutBy (.epochTimerExpiry .dominant false) false := by
  refine ⟨Or.inr ⟨_, rfl, ?_⟩, Or.inr ⟨_, rfl, ?_⟩, Or.inr ⟨_, rfl, ?_⟩, Or.inr ⟨_, rfl, ?_⟩, Or.inl ⟨by decide, Or.inl ⟨_, rfl, by decide⟩⟩⟩
  all_goals unfold State.cutAt State.markAt; decide

/-- A local mark at the end of a vetoed epoch that has settled counts it as void once, and lets the waiting directive go
on (R37, R80, R117). -/
theorem test_local_mark_of_a_vetoed_epoch :
    let s := settled .active (evicting 0)
    let s := { s with sbi := { s.sbi with vetoed := true, syncDrive := .attempting }
                      ctl := { s.ctl with awaiting := true, queue := [{ frame := halve, sendCount := 1 }] } }
    let t := after (exec (.syncHighFault false) s)
    t.mgmt.counters.voidEpochs = 0 ∧ t.mgmt.counters.cutEpochs = 1 ∧ t.ctl.awaiting = false
      ∧ t.ctl.queue = [{ frame := halve, sendCount := 1 }] ∧ t.ctl.station = .active := by decide +kernel

/-- An evicted station, a fenced one whose number is clear, and one whose number is set; and a Leaving station whose one
descriptor is at the age limit. -/
theorem witness_EvictionFencesAndReadmissionRejoins :
    (∀ p ∈ [(StationState.active, (0x0020 : StationMask)), (.leaving, 0x0020), (.fenced, 0), (.fenced, 0x0020)],
      let s := holding (settled p.1 (evicting p.2)) [journal 60 1 2]
      s.uncutAt 9600 ∧ s.sbi.vetoed = false ∧ s.alloc.settle = .complete ∧ s.alloc.pending = some (evicting p.2)
        ∧ (s.store.held.filter fun d => d.age == s.settings.ageLimit) ≠ []
        ∧ (s.store.held.filter fun d => d.age != s.settings.ageLimit) = [])
      ∧ releases .active = true ∧ releases .leaving = true ∧ holds (0x0020 : StationMask) (live .active).own = true
      ∧ holds (0 : StationMask) (live .active).own = false := by
  unfold State.uncutAt State.markAt; decide

/-- A vetoed epoch at its mark: stations whose number is evicted, a fenced one whose number is clear, and results that a
station in Quiet or Excluded still holds. -/
theorem witness_void_and_idle_marks :
    (∀ p ∈ [(StationState.joining, (0x0020 : StationMask)), (.active, 0x0020), (.resync, 0x0020), (.leaving, 0x0020), (.fenced, 0)],
      let s := settled p.1 (evicting p.2)
      let s := { s with sbi := { s.sbi with vetoed := true } }
      s.uncutAt 9600 ∧ s.sbi.vetoed = true ∧ s.alloc.settle = .complete ∧ s.ctl.station = p.1)
      ∧ ∀ st ∈ [StationState.quiet, .excluded],
        let s := settled st (evicting 0x0020)
        let s := { s with census := { s.census with result := some .minority } }
        s.markAt 9600 ∧ s.ctl.station = st := by
  unfold State.uncutAt State.markAt; decide

/-- Each result in each state, at each streak. -/
theorem witness_ConfirmedResultsMoveTheStation :
    ∀ st ∈ [StationState.active, .joining, .resync], ∀ streak ∈ [0, 1, 2],
      ∀ result ∈ [none, some TallyResult.agree, some .minority, some .match, some .mismatch, some .lone],
        let s := settled st (evicting 0)
        let s := { s with ctl := { s.ctl with streak := streak }, census := { s.census with result := result } }
        s.uncutAt 9600 ∧ s.sbi.vetoed = false ∧ s.alloc.settle = .complete ∧ s.alloc.pending = some (evicting 0)
          ∧ holds (evicting 0).admin.evicted s.own = false ∧ s.ctl.streak ≤ 2 ∧ s.ctl.station = st
          ∧ s.census.result = result ∧ s.ctl.streak = streak := by
  unfold State.uncutAt State.markAt; decide +kernel

/-- A Joining station found alone, its monitor Masked at the debounce, below it, and at its third mark, enters Active. -/
theorem witness_ConfirmedResultsMoveTheStation_monitors :
    ∀ m ∈ [(3, 0), (2, 2), (3, 3)],
      let s := settled .joining (evicting 0)
      let s := { s with census := { s.census with result := some .lone }
                        monitors := s.monitors.set 0 { Monitor.reset with highCount := m.1, marks := m.2 } }
      s.monitors[(0 : Fin 4)].state = .masked ∧ 0 < s.plan.targets ∧ s.settings.monitors[(0 : Fin 4)].debounce = 3
        ∧ (after (exec (.trueMark 9600 false) s)).ctl.station = .active := by decide +kernel

/-- A station that has heard notices in this epoch. -/
def hearing (s : State) (ns : List Notice) : State :=
  ns.foldl (fun s n =>
    { s with census := { s.census.setEntry n.sender
        { state := .heard, contents := some n, missCount := 0, lastHeard := n.seq } with
      heard := s.census.heard ||| stationBit n.sender } }) s

/-- The listen epochs of the plan are 1: a count below it, one past it, and the plan check both ways; marks that cut and that
do not, and the two local marks. -/
theorem witness_ListeningEndsByThePlanCheck :
    let s := settled .listening (evicting 0)
    let other := hearing s [{ nine with planDigest := 1 }]
    let later := { s with ctl := { s.ctl with listenCount := 1 } }
    s.uncutAt 9600 ∧ other.uncutAt 9600 ∧ later.uncutAt 9600 ∧ (inPhase .listening .stalled 0).cutAt 0
      ∧ s.ctl.station = .listening ∧ other.ctl.station = .listening ∧ later.ctl.station = .listening
      ∧ min (s.ctl.listenCount + 1) 15 = s.plan.listenEpochs ∧ planCheck s.planSplit = true
      ∧ planCheck other.planSplit = false ∧ min (later.ctl.listenCount + 1) 15 ≠ later.plan.listenEpochs := by
  unfold State.uncutAt State.cutAt State.markAt; decide +kernel

/-- A local mark by the timer, and one by a drive of SYNC, in each state that drives SYNC. -/
theorem witness_local_marks :
    ∀ st ∈ [StationState.listening, .joining, .active, .resync, .leaving, .fenced], ∀ ageingFirst ∈ [false, true],
      (let s := { inPhase st .stalled 10000 with sbi := { stuck.sbi with syncDrive := .released } }
       s.localMarkBy (.epochTimerExpiry .dominant ageingFirst) ageingFirst ∧ PhaseInv s)
        ∧ (let s := { inPhase st .idle 10000 with sbi := { (inPhase st .idle 10000).sbi with syncDrive := .attempting } }
           s.localMarkBy (.syncHighFault ageingFirst) ageingFirst ∧ PhaseInv s) := by
  intro st h ageingFirst _
  refine ⟨⟨⟨?_, Or.inl ⟨_, rfl, rfl⟩⟩, ?_⟩, ⟨?_, Or.inr ⟨rfl, rfl⟩⟩, ?_⟩
  all_goals try unfold PhaseInv
  all_goals revert st; decide

/-- The sides of the plan check: equal fewer, unequal fewer, none heard, and as many of each led by either. -/
theorem witness_ListeningEndsByThePlanCheck_split :
    let sides (split : List (StationNo × Bool)) := ((split.filter (·.2)).length, (split.filter fun p => !p.2).length)
    sides [(9, false)] = (0, 1) ∧ sides [(9, true)] = (1, 0) ∧ sides [] = (0, 0)
      ∧ sides [(3, true), (9, false)] = (1, 1) ∧ sides [(3, false), (9, true)] = (1, 1) := by decide

/-- A mark that leaves the station state; counters below 0, at 0 and above, and a percent of 0 for target 1. -/
theorem witness_MarkReloadsTheCredit :
    let s := settled .active { evicting 0 with admin := { Admin.reset with percents := Admin.reset.percents.set 1 0 } }
    let s := { s with meter := { s.meter with credits := (s.meter.credits.set 0 (-71)).set 1 65535 } }
    let t := after (exec (.trueMark 9600 false) s)
    s.markedBy (.trueMark 9600 false) false ∧ t.ctl.station = s.ctl.station
      ∧ (s.meter.credits[(0 : Fin 12)] < 0 ∧ 0 ≤ s.meter.credits[(1 : Fin 12)] ∧ 0 ≤ s.meter.credits[(2 : Fin 12)])
      ∧ t.alloc.standing.admin.percents[queueTarget 0] ≠ 0 ∧ t.alloc.standing.admin.percents[queueTarget 3] = 0 := by
  refine ⟨Or.inr ⟨9600, rfl, ?_⟩, ?_⟩
  · unfold State.markAt; decide
  · decide +kernel

/-- Marks that change the station state: from Listening to Joining, from Active to Fenced, from Leaving to Quiet. -/
theorem witness_MarkReloadsTheCredit_entries :
    (∀ p ∈ [(StationState.listening, (0 : StationMask), StationState.joining), (.active, 0x0020, .fenced), (.fenced, 0, .joining)],
      let s := settled p.1 (evicting p.2.1)
      s.markAt 9600 ∧ PhaseInv s ∧ (after (exec (.trueMark 9600 false) s)).ctl.station = p.2.2)
      ∧ (let s := holding (settled .leaving (evicting 0)) [journal 60 1 2]
         s.markAt 9600 ∧ PhaseInv s ∧ (after (exec (.trueMark 9600 false) s)).ctl.station = .quiet
           ∧ (after (exec (.trueMark 9600 false) s)).sent = [.expired 60 .age]) := by
  unfold State.markAt PhaseInv; decide +kernel

/-- A mark that leaves the station state, a record at the age limit and one below it, a monitor at its third mark. -/
theorem witness_MarkAgesDescriptorsAndMonitors :
    let s := holding (settled .active (evicting 0)) [journal 60 1 2, journal 61 1 1]
    let s := { s with monitors := s.monitors.set 0 { Monitor.reset with state := .clear, marks := 3 } }
    let t := after (exec (.trueMark 9600 false) s)
    s.markAt 9600 ∧ PhaseInv s ∧ t.ctl.station = s.ctl.station ∧ s.settings.ageLimit = 2 ∧ t.sent = [.expired 60 .age]
      ∧ 0 < s.plan.targets ∧ 3 ≤ s.monitors[(0 : Fin 4)].marks := by
  unfold State.markAt PhaseInv; decide +kernel

theorem witness_StallBeginsAndEnds :
    observes (live .quiet).ctl.station = true ∧ (live .quiet).sbi.faults.syncLow = false
      ∧ stuck.sbi.faults.syncLow = true := by decide

/-! ### The hypotheses of the statements are met: slots, windows, the settle -/

/-- A station whose transmission is on the line. -/
def sending (s : State) (f : TxFrame) (readback : Readback) : State :=
  { s with sbi := { s.sbi with txBuffer := some f, readback := readback } }

/-- The own slot, entered and about to be entered; the last slot; the own slot of the states that send no notice, and the own
slot of one that is sending already. -/
theorem witness_OwnSlotSendsTheNoticeOfItsStart :
    (∀ p ∈ [Phase.slot 4, .slot 5], let s := inPhase .leaving p 2200
      noticeStatus s.ctl.station = some .leaving ∧ s.sbi.phase.rank ≤ s.own.toNat + 1 ∧ s.sbi.txBuffer = none)
      ∧ observes (inPhase .quiet (.slot 15) 6200).ctl.station = true
      ∧ (inPhase .quiet (.slot 15) 6200).sbi.phase.rank ≤ (15 : StationNo).toNat + 1
      ∧ (15 : StationNo) ≠ (inPhase .quiet (.slot 15) 6200).own
      ∧ (∀ st ∈ [StationState.listening, .quiet, .excluded], let s := inPhase st (.slot 5) 2200
        observes s.ctl.station = true ∧ s.sbi.phase.rank ≤ s.own.toNat + 1 ∧ noticeStatus s.ctl.station = none)
      ∧ (sending (inPhase .active (.slot 5) 2300) (.notice nine) .driving).sbi.txBuffer ≠ none
      ∧ (let b := (sending (inPhase .active (.slot 5) 2300) (.notice nine) .driving).sbi
         b.txBuffer = some (.notice nine) ∧ b.readback = .driving) := by decide

/-- The line of 12.7 in slot 5: the lead, the start bit, the first byte 0x52, and the tail (R26, R173). -/
theorem test_notice_on_the_line :
    let b := (sending (inPhase .active (.slot 5) 2300) (.notice { nine with sender := 5 }) .driving).sbi
    [0, 19, 20, 21, 22, 23, 24, 25, 26, 27, 28, 365, 399].map b.sdatDrive =
      [.recessive, .recessive, .dominant, .dominant, .recessive, .dominant, .recessive, .dominant, .dominant, .recessive,
       .dominant, .recessive, .recessive] := by decide +kernel

/-- The first and the last bit of a notice; the start bit, a key bit driven dominant, the first bit after the key, and the
last bit of a Directive Frame. -/
theorem witness_ReadbackMismatchAbandonsTheFrame :
    let a := sending (inPhase .active (.slot 5) 2300) (.notice nine) .driving
    let b := sending (inPhase .active .directiveWindow 6650) (.directive halve) .driving
    a.sbi.readback = .driving ∧ a.sbi.txBuffer = some (.notice nine) ∧ a.sbi.phase = .slot 5 ∧ b.sbi.readback = .driving
      ∧ b.sbi.txBuffer = some (.directive halve) ∧ b.sbi.phase = .directiveWindow
      ∧ (∀ bitTime ∈ [20, 364], 20 ≤ bitTime ∧ bitTime ≤ 364)
      ∧ ∀ bitTime ∈ [20, 21, 27, 74], 20 ≤ bitTime ∧ bitTime ≤ 74
        ∧ (bitTime < 21 ∨ 26 < bitTime ∨ halve.wire.getMsbD (bitTime - 21) = false) := by decide +kernel

/-- Each end of a transmission in the own slot; a lead that is recessive, and one that is not. -/
theorem witness_OwnSlotOutcomes :
    (∀ r ∈ [Readback.driving, .mismatched, .released, .complete], ∀ streak ∈ [0, 1],
      let s := sending (inPhase .active (.slot 5) 2300) (.notice nine) r
      let s := { s with sbi := { s.sbi with clashStreak := streak } }
      s.canClose s.own ∧ s.sbi.txBuffer = some (.notice nine) ∧ s.ctl.station ≠ .listening ∧ (noticeStatus s.ctl.station).isSome = true
        ∧ s.sbi.readback = r ∧ s.sbi.clashStreak = streak)
      ∧ (BitVec.allOnes 400 ≠ 0 ∧ leadRecessive (BitVec.allOnes 400) = true)
      ∧ (1 : BitVec 400) ≠ 0 ∧ leadRecessive (1 : BitVec 400) = false := by
  unfold State.canClose; decide +kernel

/-- In the last phase in which its slot can close; a Listening station adopts, an Active one does not. -/
theorem witness_ASentNoticeIsHeardAsItWasSent :
    ∀ st ∈ [StationState.listening, .active],
      (inPhase st (.slot 9) 3900).canClose nine.sender ∧ (inPhase st (.slot 9) 3900).sbi.txBuffer = none
        ∧ ∀ t : Fin 4, nine.percents[t].toNat ≤ 100 := by
  unfold State.canClose; decide

/-- Samples with a dominant lead bit, which are no frame. -/
theorem test_notFramed : ¬ ((∀ i, i < 20 ∨ (365 ≤ i ∧ i < 400) → (1 : BitVec 400).getMsbD i = true)
    ∧ (1 : BitVec 400).getMsbD 20 = false) := fun h => absurd (h.1 0 (Or.inl (by decide))) (by decide +kernel)

/-- Samples that frame 344 zero bits. -/
theorem test_framed : (∀ i, i < 20 ∨ (365 ≤ i ∧ i < 400) → (samplesOf (List.replicate 344 false)).getMsbD i = true)
    ∧ (samplesOf (List.replicate 344 false)).getMsbD 20 = false := by
  have h : ∀ i : Fin 400, i.val < 20 ∨ (365 ≤ i.val ∧ i.val < 400) →
      (samplesOf (List.replicate 344 false)).getMsbD i.val = true := by decide +kernel
  exact ⟨fun i hi => h ⟨i, by omega⟩ hi, by decide +kernel⟩

/-- Samples that are no frame, and a frame that carries no valid notice; a sender, a status and a percent out of place. -/
theorem witness_SlotsWithoutANotice :
    let s := inPhase .active (.slot 9) 3900
    let zeros := samplesOf (List.replicate 344 false)
    s.canClose 9 ∧ s.sbi.txBuffer = none ∧ ((1 : BitVec 400) ≠ 0 ∧ (1 : BitVec 400) ≠ BitVec.allOnes 400)
      ∧ (zeros ≠ 0 ∧ zeros ≠ BitVec.allOnes 400) ∧ validNotice 9 (noticeBytes (zeros.extractLsb' 35 344)) = none
      ∧ (let b (n : Notice) := n.bytes ++ bytes16 n.check
         validNotice 9 (b nine) = some nine ∧ validNotice 8 (b nine) = none
           ∧ validNotice 9 (b { nine with percents := Vector.replicate 4 101 }) = none) := by
  unfold State.canClose; decide +kernel

/-- A slot with nothing sent, the fault clear and holding; and the own slot with its notice abandoned. -/
theorem witness_SdatLowBeginsAndEnds :
    (∀ low : Bool, let s := inPhase .fenced (.slot 9) 3900
     let s := { s with sbi := { s.sbi with faults := { s.sbi.faults with sdatLow := low } } }
     s.canClose 9 ∧ s.sbi.txBuffer = none ∧ s.sbi.faults.sdatLow = low)
      ∧ (∀ r ∈ [Readback.mismatched, .released], let s := sending (inPhase .active (.slot 5) 2300) (.notice nine) r
        s.canClose s.own ∧ s.sbi.txBuffer = some (.notice nine) ∧ s.sbi.readback ≠ .driving ∧ s.sbi.readback ≠ .complete)
      ∧ ∀ p ∈ [Phase.slot 15, .directiveWindow], let s := inPhase .active p 6599
        observes s.ctl.station = true ∧ (s.advanceTo 6600).sbi.phase = p := by
  unfold State.canClose; decide

/-- A contender, an Active station with nothing to send, and one that is not Active; the first and the last key bit driven
recessive. -/
theorem witness_ContendersSendTheHeadAndWithdraw :
    (∀ st ∈ [StationState.active, .leaving], ∀ p ∈ [Phase.slot 15, .directiveWindow], let s := inPhase st p 6600
      observes s.ctl.station = true ∧ s.sbi.phase.rank ≤ 17 ∧ s.sbi.windowClosed = false ∧ s.sbi.txBuffer = none
        ∧ s.ctl.station = st ∧ s.ctl.queue = [])
      ∧ (let s := inPhase .active .directiveWindow 6600
         { s with ctl := { s.ctl with queue := [{ frame := halve, sendCount := 0 }] } }.ctl.queue =
           { frame := halve, sendCount := 0 } :: [])
      ∧ ∀ d ∈ [{ halve with priority := 3 }, halve], ∀ bitTime ∈ [22, 26], 21 ≤ bitTime ∧ bitTime ≤ 26
        ∧ (DirectiveFrame.wire d).getMsbD (bitTime - 21) = true := by decide +kernel

/-- The key of priority 1 and station 5 on the line, and the line of a contender that has withdrawn (R29, R30). -/
theorem test_key_on_the_line :
    (let b := (sending (inPhase .active .directiveWindow 6650) (.directive halve) .driving).sbi
     (b.txBuffer = some (.directive halve) ∧ b.readback = .driving)
       ∧ [19, 20, 21, 22, 23, 24, 25, 26, 75].map b.sdatDrive =
           [.recessive, .dominant, .dominant, .recessive, .dominant, .recessive, .dominant, .recessive, .recessive])
      ∧ (sending (inPhase .active .directiveWindow 6650) (.directive halve) .withdrawn).sbi.sdatDrive 23 = .recessive := by
  decide +kernel

/-- A frame still driven at its head, and one that was complete when the drain ended and the queue was dropped. -/
theorem witness_ASentDirectiveAwaitsItsEpoch :
    let s := sending (inPhase .active .directiveWindow 6675) (.directive halve) .driving
    let s := { s with ctl := { s.ctl with queue := [{ frame := halve, sendCount := 255 }] } }
    let t := after (exec (.depart (checkedFrame s .depart [0, 0])) s)
    (observes s.ctl.station = true ∧ s.sbi.phase.rank ≤ 18 ∧ s.sbi.windowClosed = false
      ∧ s.sbi.txBuffer = some (.directive halve) ∧ s.sbi.readback = .driving
      ∧ s.ctl.queue = { frame := halve, sendCount := 255 } :: [])
      ∧ observes t.ctl.station = true ∧ t.sbi.phase.rank ≤ 18 ∧ t.sbi.windowClosed = false
      ∧ t.sbi.txBuffer = some (.directive halve) ∧ t.sbi.readback = .complete ∧ t.ctl.queue = [] := by decide +kernel

/-- A frame driven whole is sent though the veto window has opened and the station has left Active before the directive
window closes, all at 70.0 µs (R30, R53, R116). -/
theorem test_sent_after_the_veto_window_opens :
    let s := holding (sending (inPhase .active .directiveWindow 6660) (.directive halve) .driving) [journal 60 1 0]
    let s := { s with ctl := { s.ctl with queue := [{ frame := halve, sendCount := 0 }] } }
    let t := after (exec .vetoWindowOpen s)
    let t := after (exec (.depart (checkedFrame s .depart [0, 0])) t)
    let t := after (exec (.directiveWindowClose (BitVec.allOnes 400)) t)
    t.ctl.station = .leaving ∧ t.ctl.awaiting = true ∧ t.ctl.queue = [{ frame := halve, sendCount := 1 }]
      ∧ t.census.received = some halve ∧ t.mgmt.counters.badFrames = 0 := by decide +kernel

/-- A receiver, a contender that has withdrawn and one that has abandoned its frame; samples that carry a frame, none, no
frame, and a frame whose check is wrong. -/
theorem witness_ADirectiveIsReceivedAsItWasSent :
    (∀ p ∈ [Phase.directiveWindow, .vetoWindow], let s := inPhase .active p 7000
      observes s.ctl.station = true ∧ s.sbi.phase.rank ≤ 18 ∧ s.sbi.windowClosed = false ∧ s.sbi.txBuffer = none)
      ∧ (∀ r ∈ [Readback.withdrawn, .mismatched, .released],
          let s := sending (inPhase .active .directiveWindow 7000) (.directive halve) r
          s.sbi.phase.rank ≤ 18 ∧ s.sbi.windowClosed = false ∧ s.sbi.txBuffer = some (.directive halve) ∧ s.sbi.readback = r)
      ∧ (1 : BitVec 400) ≠ BitVec.allOnes 400
      ∧ validDirective ((samplesOf (List.replicate 54 false)).extractLsb' 325 54) = none
      ∧ validDirective (DirectiveFrame.wire halve) = some halve := by decide +kernel

/-- Samples that frame 54 zero bits. -/
theorem test_framed_window : (∀ i, i < 20 ∨ (75 ≤ i ∧ i < 400) → (samplesOf (List.replicate 54 false)).getMsbD i = true)
    ∧ (samplesOf (List.replicate 54 false)).getMsbD 20 = false := by
  have h : ∀ i : Fin 400, i.val < 20 ∨ (75 ≤ i.val ∧ i.val < 400) →
      (samplesOf (List.replicate 54 false)).getMsbD i.val = true := by decide +kernel
  exact ⟨fun i hi => h ⟨i, by omega⟩ hi, by decide +kernel⟩

/-- The veto window, about to be entered and entered. -/
theorem witness_VetoIsDrivenAndSampled :
    ∀ p ∈ [Phase.directiveWindow, .vetoWindow], let s := inPhase .active p 7000
      observes s.ctl.station = true ∧ s.sbi.phase.rank ≤ 18 ∧ s.sbi.vetoAsked = false ∧ (p = .vetoWindow → s.sbi.phase = p) := by
  decide

/-- The last bit time before the margins and the first after them; those beside them are well-formed for neither. -/
theorem witness_VetoLowBeginsAndEnds :
    (∀ time ∈ [6989, 7110], observes (inPhase .quiet .vetoWindow 6900).ctl.station = true
      ∧ (time < 6990 ∨ 7110 ≤ time) ∧ (inPhase .quiet .vetoWindow 6900).sbi.faults.vetoLow = false)
      ∧ ∀ time ∈ [6990, 7109], outsideVetoWindow time = false := by decide

/-- The veto window of a vetoed epoch, at its close. -/
theorem witness_VetoedEpochIsVoidAtOnce :
    let s := after (exec (.vetoSample .dominant) (inPhase .active .vetoWindow 7050))
    observes s.ctl.station = true ∧ s.sbi.phase.rank ≤ 18 ∧ s.alloc.settle = .idle ∧ s.sbi.vetoed = true := by decide

/-- The veto window of a clear epoch at its close, these notices heard. -/
def tallying (st : StationState) (sent : Bool) (ns : List Notice) : State :=
  let s := hearing (inPhase st .vetoWindow 7050) ns
  { s with census := { s.census with ownSent := sent }, sbi := { s.sbi with seq := 60 } }

/-- The own notice, with a digest. -/
def ownNotice (digest : Digest) : Notice := { nine with sender := 5, standingDigest := digest }

/-- Every state the tally tells apart reaches the close of a clear epoch. -/
theorem witness_ClearEpochRunsTheTally :
    ∀ st ∈ [StationState.active, .leaving, .joining, .resync, .listening, .quiet, .fenced, .excluded],
      ∀ sent ∈ [true, false], ∀ ns ∈ [[], [ownNotice 7, nine]],
        let s := tallying st sent ns
        observes s.ctl.station = true ∧ s.sbi.phase.rank ≤ 18 ∧ s.alloc.settle = .idle ∧ s.sbi.vetoed = false
          ∧ s.ctl.station = st ∧ s.census.ownSent = sent := by decide +kernel

/-- A verdict of each kind: alone, in agreement, and against two. -/
theorem witness_ClearEpochRunsTheTally_verdicts :
    (let ps := (tallying .active true [ownNotice 7]).participants
     majority ps = some (5, ownNotice 7) ∧ ∀ p ∈ ps, p.1 = 5)
      ∧ (let s := tallying .active true [ownNotice 7, nine]
         (s.census.entry s.own).contents = some (ownNotice 7) ∧ majority s.participants = some (5, ownNotice 7)
           ∧ ∃ p ∈ s.participants, p.1 ≠ s.own)
      ∧ (let s := tallying .leaving true [ownNotice 8, nine, { nine with sender := 15 }]
         (s.census.entry s.own).contents = some (ownNotice 8) ∧ majority s.participants = some (9, nine)
           ∧ (∃ p ∈ s.participants, p.1 ≠ s.own) ∧ (ownNotice 8).pair ≠ nine.pair) := by decide +kernel

/-- An outcome of each kind, and an adoption in Listening. -/
theorem witness_ClearEpochRunsTheTally_outcomes :
    majority (tallying .joining false []).participants = none
      ∧ majority (tallying .joining false [nine]).participants = some (9, nine)
      ∧ majority (tallying .listening false [nine]).participants = some (9, nine)
      ∧ (let s := tallying .joining false [nine]
         nine.pair ≠ (s.sbi.seq, s.alloc.standing.digest)
           ∧ ({ nine with standingDigest := 0 } : Notice).pair = (s.sbi.seq, s.alloc.standing.digest)) := by
  decide +kernel

theorem witness_MajorityIsTheLargestGroup :
    (tallying .active true [ownNotice 8, nine]).participants.Pairwise (fun p q => p.1.toNat < q.1.toNat) := by
  decide +kernel

/-- No directive, one of each kind, and a percent and a target at each side of their limits; and a command that leaves the
settle in flight. -/
theorem witness_SettleComputesThePendingRecord :
    let with_ (c : Census) : State :=
      { live .active with alloc := { (live .active).alloc with settle := .inFlight, handOver := some c } }
    let at_ (operand : BitVec 16) : DirectiveFrame := { halve with operand := operand }
    (with_ Census.reset).alloc.settle = .inFlight ∧ (with_ Census.reset).alloc.handOver = some Census.reset
      ∧ Census.reset.received = none ∧ (live .active).plan.targets = 1
      ∧ (∀ d ∈ [at_ 0x0064, at_ 0x0065, at_ 0x0164, { halve with kind := .evict }, { halve with kind := .readmit }],
          let c := { Census.reset with received := some d }
          (with_ c).alloc.handOver = some c ∧ c.received = some d)
      ∧ (operandTarget 0x0064 = 0 ∧ operandPercent 0x0064 = 100) ∧ operandPercent 0x0065 = 101
      ∧ operandTarget 0x0164 = 1
      ∧ (after (exec (.recall 1) (with_ Census.reset))).alloc.settle = (with_ Census.reset).alloc.settle := by decide

/-- A REJOIN while the settle is in flight clears the Peer Table and leaves the record that is computed (R62). -/
theorem test_rejoin_leaves_the_settle :
    let s := after (exec .settleStart (tallying .quiet false [nine]))
    let t := after (exec (.rejoin .recessive (checkedFrame s .rejoin [])) s)
    t.ctl.station = .listening ∧ t.census.entry 9 = PeerEntry.reset
      ∧ (after (exec .settleComplete t)).alloc = (after (exec .settleComplete s)).alloc
      ∧ ((after (exec .settleComplete t)).alloc.pending.map (·.members)) = some 0x0200 := by decide +kernel

theorem witness_MembersGuestsAndCapacities :
    (0 : Fin 4).val < smallPlan.targets
      ∧ (let s := hearing (live .active) [nine]
         (s.census.entry 9).contents = some nine ∧ (s.census.entry 8).contents = none) := by decide +kernel

/-- A plan whose tiers close; places met and unmet, of members and of guests, in the first tier and in the last. -/
theorem witness_GrantsStayWithinTheirBounds :
    (∀ e ∈ planOf49.entries, e.floor ≤ e.ceiling) ∧ (0 : Fin 4).val < planOf49.targets
      ∧ (∀ e ∈ (planOf49.entries.filter fun e => e.target == 0).getLast?, e.tierEnd = true) ∧ planOf49.tierCount 0 = 3
      ∧ (let cells := computeCells planOf49 (roleIn 0x0224 0x1000) demandOf49 (Vector.replicate 4 300)
         (cells[2]?.map fun c => (c.place.target, c.place.tier, c.grant == c.want)) = some (0, 0, true)
           ∧ (cells[17]?.map fun c => (c.place.target, c.place.tier, decide (c.grant < c.want))) = some (0, 1, true)
           ∧ (cells[31]?.map fun c => (c.place.target, c.place.tier, c.place.station)) = some (0, 2, 12)) := by
  decide +kernel

/-! ### The hypotheses of the statements are met: the management port -/

/-- A station with a check mode in force. -/
def checking (s : State) (mode : CheckMode) : State := { s with mgmt := { s.mgmt with checkMode := mode } }

/-- RESET not low, and the port at work: in service, and in Booting. -/
theorem test_port_at_work :
    (live .active).resetLow = false ∧ (live .active).ctl.station ≠ .booting ∧ booting.resetLow = false
      ∧ booting.ctl.station = .booting ∧ (live .active).mgmt.transaction = .idle := by decide

/-- The byte counts and the check byte: a length byte of 2 with one byte and with four, with two, and with three of which
the last is and is not the check (steps 3 and 4). -/
theorem witness_FramesAreRefusedByTheFirstStep :
    let s := live .active
    let check := managementCheck [writeAddress s.own, 7, 2, 0, 1]
    (([0] : List Byte).length ≠ (2 : Byte).toNat ∧ ([0] : List Byte).length ≠ (2 : Byte).toNat + 1)
      ∧ (([0, 0, 0, 0] : List Byte).length ≠ (2 : Byte).toNat ∧ ([0, 0, 0, 0] : List Byte).length ≠ (2 : Byte).toNat + 1)
      ∧ ([0, 1] : List Byte).length = (2 : Byte).toNat
      ∧ (checking s .required).mgmt.checkMode = .required ∧ s.mgmt.checkMode ≠ .required ∧ s.mgmt.checkMode ≠ .off
      ∧ [0, 1, check].length = (2 : Byte).toNat + 1 ∧ [0, 1, check].getLast? = some check
      ∧ [0, 1, check + 1].getLast? ≠ some check ∧ (checking s .off).mgmt.checkMode = .off := by decide +kernel

/-- The command byte: the codes beside the nine, the commands that Booting does not serve, the length of a command
(steps 5 to 7). -/
theorem witness_FramesAreRefusedByTheFirstStep_commands :
    (∀ c ∈ [(0 : Byte), 10], c = 0 ∨ 9 < c.toNat) ∧ (∀ c ∈ [(1 : Byte), 9], c ≠ 0 ∧ c.toNat ≤ 9)
      ∧ ¬ (booting.ctl.station ≠ .booting ∨ (8 : Byte) = 0x09 ∨ ((8 : Byte) = 0x01 ∧ ([] : List Byte).head? = some 0))
      ∧ ¬ (booting.ctl.station ≠ .booting ∨ (1 : Byte) = 0x09 ∨ ((1 : Byte) = 0x01 ∧ ([1, 0, 0, 1] : List Byte).head? = some 0))
      ∧ (live .active).ctl.station ≠ .booting
      ∧ some (3 : Byte).toNat ≠ [4, 2, 2, 1, 0, 4, 2, 0, 0][(1 : Byte).toNat - 1]?
      ∧ some (1 : Byte).toNat ≠ [4, 2, 2, 1, 0, 4, 2, 0, 0][(9 : Byte).toNat - 1]? := by decide

/-- Pages 6 and 7; counts 0, 1, 32 and 33; the last bytes of page 6, of 48, and one past them; page 0 in Booting. -/
theorem witness_ReadViewAnswersFromThePage :
    6 < (7 : Byte).toNat ∧ ((live .active).page (6 : Byte).toNat).map List.length = some 48
      ∧ (∃ b, (live .active).page (6 : Byte).toNat = some b ∧ b.length = 48)
      ∧ (∃ b, booting.page (0 : Byte).toNat = some b ∧ b.length = 52)
      ∧ (48 < (17 : BitVec 16).toNat + (32 : Byte).toNat ∧ (16 : BitVec 16).toNat + (32 : Byte).toNat ≤ 48)
      ∧ (1 ≤ (1 : Byte).toNat ∧ (32 : Byte).toNat ≤ 32 ∧ 32 < (33 : Byte).toNat)
      ∧ (after (exec (.recall 1) (live .active))).mgmt.response = none
      ∧ { live .active with mgmt := { Mgmt.reset with response := some { status := .ok, data := [] } } }.mgmt.response =
          some { status := .ok, data := [] } :=
  ⟨by decide, by decide +kernel, ⟨_, rfl, by decide +kernel⟩, ⟨_, rfl, by decide +kernel⟩, by decide, by decide, by decide,
    rfl⟩

/-- A command that keeps the mask answers a next state; the port's premises are `test_port_at_work`. -/
theorem witness_TheMaskDecidesAttn :
    (live .active).resetLow = false ∧ (live .active).ctl.station ≠ .booting
      ∧ ∃ t, exec .stall (live .active) = .next t ∧ t.mgmt.mask = (live .active).mgmt.mask :=
  ⟨rfl, by decide, _, rfl, by decide⟩

theorem witness_ClearCommandsSpareWhatHolds :
    (live .failsafe).resetLow = false ∧ (live .failsafe).ctl.station ≠ .booting := by decide

/-- A station whose Directive Queue holds `n` directives. -/
def queued (st : StationState) (n : Nat) : State :=
  let s := live st
  { s with ctl := { s.ctl with queue := List.replicate n { frame := halve, sendCount := 0 } } }

/-- Three and four directives queued; priority 3 and 4; kinds 0, 1, 3 and 4; percents 100 and 101; targets 0 and 1. -/
theorem witness_PostDirectiveChecksThenQueues :
    (queued .joining 0).ctl.station ≠ .active ∧ (queued .active 3).ctl.station = .active
      ∧ (queued .active 3).ctl.station ≠ .booting ∧ (queued .active 3).resetLow = false
      ∧ (queued .active 3).ctl.queue.length < 4 ∧ ¬ (queued .active 4).ctl.queue.length < 4
      ∧ ((3 : Byte).toNat ≤ 3 ∧ 3 < (4 : Byte).toNat) ∧ DirectiveKind.ofByte 1 = some .setPercent
      ∧ DirectiveKind.ofByte 3 = some .readmit ∧ (operandTarget 0x0064 < 1 ∧ operandPercent 0x0064 ≤ 100)
      ∧ 100 < operandPercent 0x0065 ∧ (live .active).plan.targets ≤ operandTarget 0x0164 := by decide

/-- A frame to station 4, and one that comes while RESET is low. -/
theorem witness_FramesAreRefusedByTheFirstStep_addresses :
    ([writeAddress 4, 9, 0] : List Byte).head? ≠ some (writeAddress (live .active).own)
      ∧ { live .active with resetLow := true }.resetLow = true ∧ ([] : List Byte).length < 256
      ∧ (live .active).mgmt.checkMode ≠ .required ∧ (checking (live .active) .off).mgmt.checkMode = .off := by decide

/-- A frame sent byte by byte to station 5 waits as a command; cut by a pin reset, it does not, and a read cut by one returns
released bits. -/
theorem test_transactions_byte_by_byte :
    let s := live .active
    let write := [7, 2, 0].foldl State.portByte (s.portAddress (writeAddress 5))
    let cut := [2, 0].foldl State.portByte (after (exec .pinReset ([7].foldl State.portByte (s.portAddress (writeAddress 5)))))
    let read := s.portAddress 0x8B
    writeAddress 5 + 1 = 0x8B ∧ write.portAcknowledges = true
      ∧ (write.portEnd 5 .recessive false).pending =
          [.unknownCommand 5 .recessive { bytes := [writeAddress 5, 7, 2, 0], offByte := false }]
      ∧ cut.portAcknowledges = false ∧ (cut.portEnd 5 .recessive false).pending = []
      ∧ read.portReads 3 = [255, managementCheck [255], 255] ∧ (after (exec .pinReset read)).portRead = 255
      ∧ (s.portAddress (writeAddress 4)).portAcknowledges = false := by decide +kernel

/-- A DEPART cuts a Directive Frame short at its last bit and no later. -/
theorem test_depart_in_the_window :
    (let at_ (time : Nat) := holding (sending (inPhase .active .directiveWindow time) (.directive halve) .driving) [journal 60 1 0]
     let depart (s : State) := (after (exec (.depart (checkedFrame s .depart [0, 0])) s)).sbi.readback
     depart (at_ 6674) = .released ∧ depart (at_ 6675) = .complete) := by decide +kernel

/-- Counts of 4,095 and 4,096; a store that holds something, and an empty one. -/
theorem witness_DepartBeginsTheDrain :
    (live .quiet).ctl.station ≠ .active ∧ (live .active).ctl.station = .active ∧ (live .active).resetLow = false
      ∧ (live .active).ctl.station ≠ .booting ∧ (4095 : BitVec 16).toNat ≤ 4095 ∧ 4095 < (4096 : BitVec 16).toNat
      ∧ (holding (live .active) [journal 60 1 0]).store.held ≠ [] ∧ (live .active).store.held = [] := by decide

/-- The timer below E_len and at it, with SYNC stuck low and not; the plan asks for one listen epoch. -/
theorem witness_RejoinEntersListening :
    (live .active).ctl.station ≠ .quiet ∧ (inPhase .quiet .idle 9999).ctl.station = .quiet
      ∧ (inPhase .quiet .idle 9999).ctl.station ≠ .booting ∧ (inPhase .quiet .idle 9999).resetLow = false
      ∧ (inPhase .quiet .idle 9999).sbi.timer < 100 * (inPhase .quiet .idle 9999).plan.epochLength
      ∧ (let s := inPhase .quiet .stalled 10000
         100 * s.plan.epochLength ≤ s.sbi.timer ∧ s.sbi.faults.syncLow = false
           ∧ { s with sbi := { s.sbi with faults := stuck.sbi.faults } }.sbi.faults.syncLow = true
           ∧ s.plan.listenEpochs = 1) := by decide

/-! ### The hypotheses of the statements are met: the descriptor link and the pacer -/

/-- Target 0 and 1 of one, class 2 and 3, lengths 63, 64, 9,216 and 9,217. -/
theorem witness_OffersPassSixChecks_fields :
    let inRange (target cls : Byte) (length : BitVec 16) : Prop :=
      target.toNat < (live .active).plan.targets ∧ cls.toNat ≤ 2 ∧ 64 ≤ length.toNat ∧ length.toNat ≤ 9216
    (inRange 0 2 64 ∧ inRange 0 0 9216) ∧ ¬ inRange 1 0 64 ∧ ¬ inRange 0 3 64 ∧ ¬ inRange 0 0 63 ∧ ¬ inRange 0 0 9217
      ∧ TrafficClass.ofByte 2 = some .bulk ∧ (0 : Byte).toNat = (0 : Fin 4).val
      ∧ (∀ st ∈ [StationState.listening, .joining, .active, .resync], (live st).ctl.station = st ∧ (live st).resetLow = false
          ∧ (live st).plan.targets ≤ 4) := by decide

/-- A percent of 0; a tag held; 512 records held and 511; a queue at its limit of 2 and below it. -/
theorem witness_OffersPassSixChecks_room :
    let q := queueIndex 0 .journal
    let one := holding (live .active) [journal 60 1 0]
    let fill (n : Nat) : State := { live .active with store := { Store.reset with
      queues := Store.reset.queues.set 11 (List.replicate n (journal 1 1 0)) } }
    (let s := live .active
     let zero := { Admin.reset with percents := Admin.reset.percents.set 0 0 }
     { s with alloc := { s.alloc with standing := { s.alloc.standing with admin := zero } } }.admin.percents[(0 : Fin 4)] = 0)
      ∧ one.admin.percents[(0 : Fin 4)] ≠ 0 ∧ (∃ d ∈ one.store.held, d.tag = 60) ∧ ¬ (∃ d ∈ one.store.held, d.tag = 61)
      ∧ (512 ≤ (fill 512).store.heldCount ∧ ¬ ∃ d ∈ (fill 512).store.held, d.tag = 60)
      ∧ ((fill 511).store.heldCount < 512 ∧ (fill 511).store.queues[q].length < (fill 511).settings.queueLimits[q])
      ∧ one.store.queues[q].length < one.settings.queueLimits[q]
      ∧ (let two := holding (live .active) [journal 60 1 0, journal 61 1 0]
         two.store.heldCount < 512 ∧ two.settings.queueLimits[q] ≤ two.store.queues[q].length
           ∧ ¬ ∃ d ∈ two.store.held, d.tag = 62) := by decide +kernel

/-- A tag held beside another, a tag held alone by a Leaving station, a tag in the history, and a tag in neither. -/
theorem witness_RecallsAreAnsweredFromStoreAndHistory :
    let two := holding (live .leaving) [journal 60 1 0, journal 61 72 0]
    let one := holding (live .leaving) [journal 60 1 0]
    let late : State := { live .active with store := { Store.reset with history := [60] } }
    two.resetLow = false ∧ (two.store.held.map (·.tag)).Nodup ∧ (∃ d ∈ two.store.held, d.tag = 61)
      ∧ journal 61 72 0 ∈ two.store.queues[(0 : Fin 12)]
      ∧ (two.store.queues.map fun q => q.filter fun d => d.tag != 61).toList.flatten ≠ []
      ∧ (∃ d ∈ one.store.held, d.tag = 60) ∧ one.ctl.station = .leaving
      ∧ (one.store.queues.map fun q => q.filter fun d => d.tag != 60).toList.flatten = []
      ∧ (¬ ∃ d ∈ late.store.held, d.tag = 60) ∧ 60 ∈ late.store.history ∧ 61 ∉ late.store.history := by decide +kernel

/-- A station at the first slot of its ring, with a record at the head of the slot's queue and a credit. -/
def pacing (st : StationState) (cells : Nat) (credit : Int) (halt : Bool) : State :=
  let s := holding (live st) [journal 60 cells 0]
  { s with meter := { s.meter with credits := s.meter.credits.set 0 credit, halt := halt, running := true } }

/-- A step that releases appends the tag to a history of 63 and drops the oldest of 64; one without credit sends nothing. -/
theorem test_release_enters_the_history :
    (∀ p ∈ [(63, List.replicate 63 (1 : Tag) ++ [60]), (64, List.replicate 63 1 ++ [60])],
      let s := pacing .active 1 1 false
      let t := after (exec .pacerStep { s with store := { s.store with history := List.replicate p.1 1 } })
      t.sent = [.release 60] ∧ t.store.history = p.2)
      ∧ (after (exec .pacerStep (pacing .active 1 0 false))).sent = []
      ∧ (after (exec .pacerStep (pacing .active 1 0 false))).store.history = [] := by decide +kernel

/-- The head of a queue released with a history of 63 and of 64; another command; a reset. -/
theorem witness_OnlyReleasesEnterTheHistory :
    (∀ n ∈ [63, 64], { live .active with store := { Store.reset with history := List.replicate n 1 } }.store.history.length = n)
      ∧ (live .active).resetLow = false
      ∧ ∃ t, exec (.recall 1) (live .active) = .next t ∧ Instr.recall 1 ≠ .pacerStep :=
  ⟨by decide, rfl, _, rfl, by decide⟩

/-- A station that does not observe; targets at T and below it; each state of a monitor, at the counts before its limit. -/
theorem witness_OccupancyReadsOrIsIgnored :
    let th := smallSettings.monitors[(0 : Fin 4)]
    observes (live .failsafe).ctl.station = false ∧ observes (live .quiet).ctl.station = true
      ∧ (live .quiet).resetLow = false ∧ (live .quiet).plan.targets ≤ (1 : Byte).toNat
      ∧ ((0 : Byte).toNat = (0 : Fin 4).val ∧ (0 : Fin 4).val < (live .quiet).plan.targets)
      ∧ (th = { high := 800, low := 500, debounce := 3 } ∧ 1 ≤ th.debounce ∧ th.low < th.high)
      ∧ (∀ m ∈ [(MonitorState.masked, 3, 0, 3), (.masked, 0, 0, 0), (.clear, 2, 0, 3), (.clear, 1, 0, 0), (.pressed, 0, 2, 3),
            (.pressed, 0, 1, 0), (.stale, 0, 0, 4)],
          ({ state := m.1, highCount := m.2.1, lowCount := m.2.2.1, marks := m.2.2.2, lastReading := 0 } :
            Monitor).consistent th.debounce)
      ∧ (799 : BitVec 16).toNat < th.high ∧ th.high ≤ (800 : BitVec 16).toNat ∧ (500 : BitVec 16).toNat ≤ th.low
      ∧ th.low < (501 : BitVec 16).toNat := by
  unfold Monitor.consistent; decide

/-- Each of the three types with one byte too few or too many, another type, and nothing at all. -/
theorem witness_OtherMessagesAreDiscarded :
    ∀ bytes ∈ [[0x01, 0, 1, 0, 0, 0], [0x01, 0, 1, 0, 0, 0, 64, 0], [0x02, 0], [0x03, 0, 1, 0, 0], [0x04, 0, 1], ([] : List Byte)],
      (bytes.head? = some 0x01 → bytes.length ≠ 7) ∧ (bytes.head? = some 0x02 → bytes.length ≠ 3)
        ∧ (bytes.head? = some 0x03 → bytes.length ≠ 4) := by decide

/-- Messages to the datapath byte by byte, and an OFFER from it (R174). -/
theorem test_link_messages :
    [LinkMessage.taken 0x1234, .refused 0x1234 .queueFull, .release 0x1234, .expired 0x1234 .exclude, .recalled 0x1234,
      .recallLate 0x1234, .recallUnknown 0x1234, .flushed].map LinkMessage.bytes =
      [[0x81, 0x12, 0x34], [0x82, 0x12, 0x34, 7], [0x83, 0x12, 0x34], [0x84, 0x12, 0x34, 4], [0x85, 0x12, 0x34],
       [0x86, 0x12, 0x34], [0x87, 0x12, 0x34], [0x88]]
      ∧ InMessage.ofBytes [0x01, 0x12, 0x34, 2, 1, 0x24, 0x00] = some (.offer 0x1234 2 1 9216) := by decide

/-- Halted; a skipped slot; an empty queue; a counter at 0; a counter at 1, in Active and in Leaving. -/
theorem witness_PacerStepVisitsTheSlot :
    let slot : RingSlot := { target := 0, cls := .journal, skip := false, stop := false }
    let other : RingSlot := { target := 0, cls := .capture, skip := true, stop := true }
    (live .quiet).meter.running = false ∧ (pacing .active 1 1 true).meter.halt = true
      ∧ (∀ st ∈ [StationState.active, .leaving], let s := pacing st 72 1 false
          s.meter.running = true ∧ s.settings.ring[s.meter.position]? = some slot ∧ s.meter.halt = false
            ∧ s.store.queues[queueIndex slot.target slot.cls] = journal 60 72 0 :: []
            ∧ 0 < s.meter.credits[queueIndex slot.target slot.cls] ∧ s.ctl.station = st)
      ∧ (pacing .active 1 0 false).meter.credits[queueIndex slot.target slot.cls] ≤ 0
      ∧ (live .active).store.queues[queueIndex slot.target slot.cls] = []
      ∧ (live .active).settings.ring[1]? = some other ∧ other.skip = true := by decide

/-- A drain that the release ends, by its count or by the last record, and one that goes on. -/
theorem witness_ReleasesEndTheDrain :
    let drain (count progress : Nat) (more : List Descriptor) : State :=
      let s := pacing .leaving 1 1 false
      { holding s (journal 60 1 0 :: more) with
        ctl := { s.ctl with drainCount := count, drainProgress := progress }, meter := s.meter }
    (∀ s ∈ [drain 4095 4094 [journal 61 1 0], drain 0 4095 [journal 61 1 0], drain 0 0 []],
      s.meter.running = true ∧ s.ctl.station = .leaving ∧ s.meter.halt = false
        ∧ s.settings.ring[s.meter.position]? = some { target := 0, cls := .journal, skip := false, stop := false }
        ∧ s.store.queues[queueIndex 0 .journal].head? = some (journal 60 1 0)
        ∧ 0 < s.meter.credits[queueIndex 0 .journal])
      ∧ min ((drain 4095 4094 []).ctl.drainProgress + 1) 4095 = (drain 4095 4094 []).ctl.drainCount
      ∧ ((drain 0 0 []).store.release 0 (journal 60 1 0)).held = []
      ∧ ((drain 0 4095 [journal 61 1 0]).store.release 0 (journal 60 1 0)).held ≠ [] := by decide +kernel

/-- Marks in Leaving: one that goes on, one at the drain epoch limit of 3, one that ages the last descriptor, and one of a
vetoed epoch that evicts the station; an uncut mark and a cutting one. -/
theorem witness_ReleasesEndTheDrain_marks :
    (∀ p ∈ [(0, 0), (2, 0), (0, 2)],
      let s := holding (settled .leaving (evicting 0)) [journal 60 1 p.2]
      let s := { s with ctl := { s.ctl with drainEpochs := p.1 } }
      s.uncutAt 9600 ∧ s.ctl.station = .leaving ∧ s.store.held ≠ [] ∧ s.settings.drainLimit = 3
        ∧ (after (exec (.trueMark 9600 false) s)).ctl.station = if p = (0, 0) then .leaving else .quiet)
      ∧ (let s := settled .leaving (evicting 0x0020)
         let s := { s with sbi := { s.sbi with vetoed := true } }
         s.uncutAt 9600 ∧ s.sbi.vetoed = true ∧ s.alloc.settle ≠ .idle
           ∧ (after (exec (.trueMark 9600 false) s)).ctl.station = .leaving)
      ∧ (inPhase .leaving .stalled 0).cutAt 0 := by
  unfold State.uncutAt State.cutAt State.markAt; decide +kernel

/-- The directives of a station that leaves service are dropped with DIR_DROP, but for one that the mark completes. -/
theorem test_directives_dropped_at_an_exit :
    ∀ p ∈ [(1, true, false), (1, false, true), (2, true, true), (0, false, false)],
      let s := settled .active (evicting 0x0020)
      let t := after (exec (.trueMark 9600 false) { s with
        ctl := { s.ctl with queue := List.replicate p.1 { frame := halve, sendCount := 1 }, awaiting := p.2.1 } })
      t.ctl.station = .fenced ∧ t.ctl.queue = [] ∧ t.mgmt.flag .dirDrop = p.2.2 := by decide +kernel

/-! ### The invariants hold in states that are not the reset state -/

/-- A station in service, a record pending, directives queued, descriptors and credit held. -/
def busy : State :=
  let s := hearing (holding (live .active) [journal 60 1 0, journal 61 72 2]) [nine]
  { s with
    alloc := { s.alloc with pending := some { s.alloc.standing with origin := .carried }, pendingVoid := 1, settle := .complete }
    ctl := (queued .active 4).ctl
    meter := { s.meter with credits := (s.meter.credits.set 0 (-71)).set 1 65535 }
    sbi := { s.sbi with timer := 10000, clashStreak := 1 } }

theorem test_plan_valid : smallPlan.valid := by
  unfold Plan.valid PlanEntry.valid
  decide +kernel

theorem test_settings_valid : smallSettings.valid 1 := by
  unfold Settings.valid
  decide

theorem witness_LoadInvariantsAreKept :
    (RestInv busy ∧ LoadedInv busy ∧ PortInv busy) ∧ RestInv (atLast .localPhase (localSection 500))
      ∧ LoadedInv (atLast .localPhase (localSection 500)) ∧ PortInv (atLast .localPhase (localSection 500))
      ∧ ∃ t, step busy = .next t := by
  refine ⟨⟨?_, ?_, ?_⟩, test_load_at_rest _ _ _ _ smallPlan rfl,
    ⟨fun h => absurd h (by decide), fun _ => test_plan_valid⟩, ?_, _, rfl⟩
  · unfold RestInv State.blocksReset; decide +kernel
  · exact ⟨fun _ => ⟨test_plan_valid, test_settings_valid⟩, fun h => absurd h (by decide)⟩
  · unfold PortInv; decide +kernel
  · unfold PortInv; decide +kernel

theorem witness_LinesQueueAndPacerFollowTheState :
    SbiInv busy ∧ PhaseInv busy ∧ LinesInv busy ∧ DirectiveInv busy ∧ MeterInv busy := by
  unfold SbiInv PhaseInv LinesInv DirectiveInv MeterInv; decide +kernel

theorem witness_PeerTableStaysConsistent : PeersInv busy := by
  unfold PeersInv PeerEntry.consistent; decide +kernel

theorem witness_AllocationStaysWithinItsBounds : VoidInv busy ∧ AllocInv busy ∧ SettleInv busy := by
  unfold SettleInv VoidInv originPair AllocInv Record.bounded; decide +kernel

theorem witness_MonitorsStayConsistent : MonitorsInv busy := by
  unfold MonitorsInv Monitor.consistent; decide +kernel

theorem witness_StoreAndCreditStayWithinTheirBounds : StoreInv busy ∧ CreditInv busy := by
  unfold StoreInv Descriptor.valid CreditInv; decide +kernel

theorem witness_ConditionFlagsFollowTheirConditions : FlagsInv busy := by
  unfold FlagsInv; decide

end Sys2Proof.Tests
end

/-! PROOF. The majority group of the tally (R84): `majority` scans the participants for the first whose group no other
exceeds, and the participants stand lowest number first. -/

namespace Sys2Proof.Machine

open Sys2Proof

/-- A participant of a group that no other exceeds in size: what `majority` looks for (R84). -/
def InLargestGroup (ps : List (StationNo × Notice)) (p : StationNo × Notice) : Prop :=
  ∀ q ∈ ps, groupSize ps q.2.pair ≤ groupSize ps p.2.pair

/-- A group is counted alike by the equality of pairs and by its Boolean test. -/
theorem groupSize_eq_length_filter (ps : List (StationNo × Notice)) (pair : Seq × Digest) :
    groupSize ps pair = (ps.filter fun p => p.2.pair = pair).length := by
  simp only [groupSize, beq_eq_decide]

/-- A group at least as large as a largest one is a largest one too. -/
theorem InLargestGroup.of_groupSize_le {ps : List (StationNo × Notice)} {p q : StationNo × Notice}
    (hp : InLargestGroup ps p) (hle : groupSize ps p.2.pair ≤ groupSize ps q.2.pair) : InLargestGroup ps q :=
  fun r hr => (hp r hr).trans hle

/-- Some participant stands in a largest group, unless there is none. -/
theorem exists_inLargestGroup {ps : List (StationNo × Notice)} (hne : ps ≠ []) : ∃ p ∈ ps, InLargestGroup ps p := by
  obtain ⟨p, hp⟩ : ∃ p, ps.argmax (fun q => groupSize ps q.2.pair) = some p :=
    Option.ne_none_iff_exists'.mp (mt List.argmax_eq_none.mp hne)
  exact ⟨p, List.argmax_mem hp, fun q hq => List.le_of_mem_argmax (f := fun q => groupSize ps q.2.pair) hq hp⟩

theorem majority_eq_none_iff (ps : List (StationNo × Notice)) : majority ps = none ↔ ps = [] := by
  constructor
  · intro hnone
    by_contra hne
    obtain ⟨p, hp, hlargest⟩ := exists_inLargestGroup hne
    exact List.find?_eq_none.mp hnone p hp (by simpa [InLargestGroup] using hlargest)
  · rintro rfl
    rfl

/-- The majority is the first participant of a largest group. -/
theorem majority_eq_some_iff (ps : List (StationNo × Notice)) (m : StationNo × Notice) :
    majority ps = some m ↔
      InLargestGroup ps m ∧ ∃ before after, ps = before ++ m :: after ∧ ∀ q ∈ before, ¬ InLargestGroup ps q := by
  simp [majority, List.find?_eq_some_iff_append, InLargestGroup]

/-- Of the participants of the largest groups, the majority's is the one with the lowest number. -/
theorem majority_le_of_inLargestGroup {ps : List (StationNo × Notice)} {m q : StationNo × Notice}
    (hsorted : ps.Pairwise fun p q => p.1.toNat < q.1.toNat) (hm : majority ps = some m)
    (hq : q ∈ ps) (hlargest : InLargestGroup ps q) : m.1.toNat ≤ q.1.toNat := by
  obtain ⟨-, before, after, rfl, hbefore⟩ := (majority_eq_some_iff ps m).mp hm
  obtain ⟨-, hrest, -⟩ := List.pairwise_append.mp hsorted
  obtain ⟨hafter, -⟩ := List.pairwise_cons.mp hrest
  rcases List.mem_append.mp hq with hq | hq
  · exact absurd hlargest (hbefore q hq)
  rcases List.mem_cons.mp hq with rfl | hq
  · exact le_rfl
  · exact (hafter q hq).le

/-- Settles O35: the scan stops at the first participant of a largest group, and the list runs from the lowest number up. -/
theorem majorityIsTheLargestGroup : Obligations.MajorityIsTheLargestGroup := by
  intro ps hsorted
  simp only [← groupSize_eq_length_filter]
  refine ⟨majority_eq_none_iff ps, fun k m hm => ?_⟩
  have hlargest : InLargestGroup ps (k, m) := ((majority_eq_some_iff ps _).mp hm).1
  have hlowest : ∀ p ∈ ps, groupSize ps p.2.pair = groupSize ps m.pair → k.toNat ≤ p.1.toNat := fun p hp hsize =>
    majority_le_of_inLargestGroup hsorted hm hp (hlargest.of_groupSize_le hsize.ge)
  exact ⟨List.mem_of_find?_eq_some hm, fun p hp hpair => hlowest p hp (congrArg _ hpair),
    fun p hp => ⟨hlargest p hp, hlowest p hp⟩⟩

end Sys2Proof.Machine

/-! PROOF. A reading of one monitor, row by row of the table of R126 with the mask of R127, and an OCCUPANCY report: it
writes the monitor of its target alone, or the counter of ignored reports alone. -/

namespace Sys2Proof.Machine

open Sys2Proof

section
variable (th : Thresholds) (n : Nat) {m : Monitor}

/-- The row of Masked (R127). -/
theorem Monitor.read_of_masked (h : m.state = .masked) :
    m.read th n =
      if th.high ≤ n then { m with highCount := satInc th.debounce m.highCount, lastReading := n, marks := 0 }
      else { m with state := .clear, highCount := 0, lastReading := n, marks := 0 } := by
  simp [Monitor.read, Monitor.readMasked, h]

/-- The row of Clear (R126). -/
theorem Monitor.read_of_clear (h : m.state = .clear) :
    m.read th n =
      if th.high ≤ n then
        if th.debounce ≤ m.highCount + 1 then
          { state := .pressed, highCount := 0, lowCount := 0, lastReading := n, marks := 0 }
        else { m with highCount := m.highCount + 1, lastReading := n, marks := 0 }
      else { m with highCount := 0, lastReading := n, marks := 0 } := by
  simp [Monitor.read, Monitor.readClear, h]

/-- The row of Pressed (R126). -/
theorem Monitor.read_of_pressed (h : m.state = .pressed) :
    m.read th n =
      if n ≤ th.low then
        if th.debounce ≤ m.lowCount + 1 then
          { state := .clear, highCount := 0, lowCount := 0, lastReading := n, marks := 0 }
        else { m with lowCount := m.lowCount + 1, lastReading := n, marks := 0 }
      else { m with lowCount := 0, lastReading := n, marks := 0 } := by
  simp [Monitor.read, Monitor.readPressed, h]

/-- The row of Stale: the reading is not counted (R126, R129). -/
theorem Monitor.read_of_stale (h : m.state = .stale) :
    m.read th n = { state := .clear, highCount := 0, lowCount := 0, lastReading := n, marks := 0 } := by
  simp [Monitor.read, h]

/-- Every row holds the reading and restarts the marks since it (R126). -/
theorem Monitor.read_lastReading_marks (m : Monitor) : (m.read th n).lastReading = n ∧ (m.read th n).marks = 0 := by
  cases h : m.state with
  | masked => rw [Monitor.read_of_masked th n h]; split <;> exact ⟨rfl, rfl⟩
  | clear => rw [Monitor.read_of_clear th n h]; split_ifs <;> exact ⟨rfl, rfl⟩
  | pressed => rw [Monitor.read_of_pressed th n h]; split_ifs <;> exact ⟨rfl, rfl⟩
  | stale => rw [Monitor.read_of_stale th n h]; exact ⟨rfl, rfl⟩

end

/-- A monitor in Masked or Clear counts no low readings (R126). -/
theorem Monitor.consistent.lowCount_eq_zero {d : Nat} {m : Monitor} (h : m.consistent d)
    (hm : m.state = .masked ∨ m.state = .clear) : m.lowCount = 0 := by
  obtain ⟨hmasked, hclear, -, -⟩ := h
  rcases hm with hm | hc
  · obtain ⟨-, hlow, -⟩ := hmasked hm
    exact hlow
  · obtain ⟨-, hlow, -⟩ := hclear hc
    exact hlow

/-- A monitor in Pressed counts no high readings (R126). -/
theorem Monitor.consistent.highCount_eq_zero {d : Nat} {m : Monitor} (h : m.consistent d) (hp : m.state = .pressed) :
    m.highCount = 0 := by
  obtain ⟨-, -, hpressed, -⟩ := h
  exact (hpressed hp).1

/-- A change of the monitor of one target writes that monitor alone. -/
theorem State.modMonitors_single (s : State) (t : Fin 4) (f : Fin 4 → Monitor → Monitor) :
    (s.modMonitors fun u m => if u.val = t.val then f u m else m) =
      { s with monitors := s.monitors.set t (f t s.monitors[t]) } := by
  have hvec : (Vector.ofFn fun u : Fin 4 => if u.val = t.val then f u s.monitors[u] else s.monitors[u]) =
      s.monitors.set t (f t s.monitors[t]) := by
    ext1 i hi
    rw [Vector.getElem_ofFn, Vector.getElem_set]
    by_cases hit : i = t.val
    · subst hit
      simp
    · simp [hit, Ne.symm hit]
  rw [State.modMonitors, hvec]

section
variable {s : State} {target : Byte} (cells : BitVec 16)

theorem State.takeReport_of_not_observes (h : observes s.ctl.station = false) : s.takeReport target cells = s := by
  simp [State.takeReport, h]

/-- A report for a target at or above T is ignored, and counted (R126). -/
theorem State.takeReport_of_targets_le (h : observes s.ctl.station = true) (ht : s.plan.targets ≤ target.toNat) :
    s.takeReport target cells = s.modCounters fun c => { c with ignoredReports := countUp 1 c.ignoredReports } := by
  simp [State.takeReport, h, ht.not_gt]

/-- A report for a target below T is a reading of that target's monitor (R126). -/
theorem State.takeReport_of_lt_targets (h : observes s.ctl.station = true) {t : Fin 4} (htarget : target.toNat = t.val)
    (ht : t.val < s.plan.targets) :
    s.takeReport target cells =
      { s with monitors := s.monitors.set t (s.monitors[t].read s.settings.monitors[t] cells.toNat) } := by
  simp only [State.takeReport, h, htarget, ht, Bool.not_true, Bool.false_eq_true, if_false, if_true]
  exact s.modMonitors_single t fun u m => m.read s.settings.monitors[u] cells.toNat

/-- Unless RESET is low, the next state of OCCUPANCY is that of its report. -/
theorem exec_occupancy (target : Byte) (h : s.resetLow = false) :
    exec (.occupancy target cells) s = .next (s.takeReport target cells) := by
  change execOccupancy target cells s = _
  simp [execOccupancy, h]

end

/-- Settles O49: the report is discarded, counted, or a reading, and the reading goes by the row of its monitor's state. A
consistent monitor holds 0 in the count that its state does not raise, which the rows leave as it is. -/
theorem occupancyReadsOrIsIgnored : Obligations.OccupancyReadsOrIsIgnored := by
  intro target cells s hreset
  simp only [exec_occupancy cells target hreset]
  refine ⟨fun hobs => ?_, fun hobs hle => ?_, fun t hobs htarget hlt hcons _ _ => ?_⟩
  · rw [State.takeReport_of_not_observes cells hobs]
  · rw [State.takeReport_of_targets_le cells hobs hle, State.modCounters_eq]
    rfl
  · obtain ⟨hlast, hmarks⟩ := Monitor.read_lastReading_marks s.settings.monitors[t] cells.toNat s.monitors[t]
    refine ⟨_, by rw [State.takeReport_of_lt_targets cells hobs htarget hlt], hlast, hmarks,
      fun hm hhigh => ?_, fun hm hhigh => ?_, fun hc hhigh hmore => ?_, fun hc hhigh hfull => ?_, fun hc hhigh => ?_,
      fun hp hlow => ?_, fun hp hlow hmore => ?_, fun hp hlow hfull => ?_, fun hs => ?_⟩
    · rw [Monitor.read_of_masked _ _ hm, if_pos hhigh]
      exact ⟨hm, rfl, hcons.lowCount_eq_zero (.inl hm)⟩
    · rw [Monitor.read_of_masked _ _ hm, if_neg hhigh.not_ge]
      exact ⟨rfl, rfl, hcons.lowCount_eq_zero (.inl hm)⟩
    · rw [Monitor.read_of_clear _ _ hc, if_pos hhigh, if_neg hmore.not_ge]
      exact ⟨hc, rfl, hcons.lowCount_eq_zero (.inr hc)⟩
    · rw [Monitor.read_of_clear _ _ hc, if_pos hhigh, if_pos hfull.ge]
      exact ⟨rfl, rfl, rfl⟩
    · rw [Monitor.read_of_clear _ _ hc, if_neg hhigh.not_ge]
      exact ⟨hc, rfl, hcons.lowCount_eq_zero (.inr hc)⟩
    · rw [Monitor.read_of_pressed _ _ hp, if_neg hlow.not_ge]
      exact ⟨hp, hcons.highCount_eq_zero hp, rfl⟩
    · rw [Monitor.read_of_pressed _ _ hp, if_pos hlow, if_neg hmore.not_ge]
      exact ⟨hp, hcons.highCount_eq_zero hp, rfl⟩
    · rw [Monitor.read_of_pressed _ _ hp, if_pos hlow, if_pos hfull.ge]
      exact ⟨rfl, rfl, rfl⟩
    · rw [Monitor.read_of_stale _ _ hs]
      exact ⟨rfl, rfl, rfl⟩

end Sys2Proof.Machine

/-! PROOF. A recall (R143): the record of a held tag leaves its queue and nothing else moves in the store, and a Leaving
station left with nothing ends its drain (R106). -/

namespace Sys2Proof.Machine

open Sys2Proof

/-! ### The records but one tag's -/

/-- Where no two records share a tag, taking out all records of a tag takes out one. -/
theorem perm_cons_filter_tag {l : List Descriptor} (hnodup : (l.map (·.tag)).Nodup) {d : Descriptor} (hd : d ∈ l) :
    l.Perm (d :: l.filter fun e => e.tag != d.tag) := by
  have herase : l.erase d = l.filter fun e => e.tag != d.tag := by
    rw [hnodup.of_map.erase_eq_filter]
    refine List.filter_congr fun e he => ?_
    have hinj : e.tag = d.tag ↔ e = d := ⟨fun h => List.inj_on_of_nodup_map hnodup he hd h, congrArg _⟩
    simp [bne, hinj]
  exact herase ▸ List.perm_cons_erase hd

/-- A queue's cells lose those of the record taken out (R135). -/
theorem queuedCells_filter_tag {l : List Descriptor} (hnodup : (l.map (·.tag)).Nodup) {d : Descriptor} (hd : d ∈ l) :
    queuedCells (l.filter fun e => e.tag != d.tag) + d.cells = queuedCells l := by
  have hsum := ((perm_cons_filter_tag hnodup hd).map (·.cells)).sum_eq
  rw [List.map_cons, List.sum_cons] at hsum
  simp only [queuedCells]
  omega

theorem Store.hasTag_iff (st : Store) (tag : Tag) : st.hasTag tag = true ↔ ∃ d ∈ st.held, d.tag = tag := by
  simp [Store.hasTag]

theorem Store.heldCount_eq_zero_iff (st : Store) : st.heldCount = 0 ↔ st.held = [] := List.length_eq_zero_iff

@[simp] theorem Store.held_empty (st : Store) : st.empty.held = [] := by
  simp [Store.held, Store.empty]

@[simp] theorem Store.held_removeTag (st : Store) (tag : Tag) :
    (st.removeTag tag).held = st.held.filter fun d => d.tag != tag := by
  simp [Store.held, Store.removeTag, List.filter_flatten, Vector.toList_map]

@[simp] theorem Store.queues_removeTag (st : Store) (tag : Tag) (q : Fin 12) :
    (st.removeTag tag).queues[q] = st.queues[q].filter fun d => d.tag != tag := by
  simp [Store.removeTag]

/-- The records of one queue are among those held, in their order. -/
theorem Store.queue_sublist_held (st : Store) (q : Fin 12) : st.queues[q].Sublist st.held :=
  List.sublist_flatten_of_mem (by simp)

/-! ### The end of a drain -/

theorem Mgmt.flag_raiseIf_self (m : Mgmt) (c : Bool) (e : Event) : (m.raiseIf c e).flag e = (m.flag e || c) := by
  cases c
  · simp [Mgmt.raiseIf]
  · cases e <;> simp [Mgmt.raiseIf, Mgmt.raise, Mgmt.flag, eventBit, Event.bit]

/-- A flag raised on a condition writes the flags alone. -/
theorem Mgmt.raiseIf_eq (m : Mgmt) (c : Bool) (e : Event) : m.raiseIf c e = { m with flags := (m.raiseIf c e).flags } := by
  cases c <;> rfl

/-- The end of a drain (R106): the station in Quiet, its descriptors expired with reason DEPART, its directives dropped. -/
theorem State.endDrain_eq (s : State) :
    s.endDrain = { s with
      ctl := { s.ctl with station := .quiet, queue := [], awaiting := false }
      sbi := s.sbi.releaseFor .quiet
      meter := s.meter.enter .quiet
      store := s.store.empty
      sent := s.sent ++ s.store.held.map fun (d : Descriptor) => LinkMessage.expired d.tag .depart
      mgmt := (({ s.mgmt with counters :=
        { s.mgmt.counters with expiries := countUp s.store.held.length s.mgmt.counters.expiries } }).raiseIf
          (!s.store.held.isEmpty) .expired).raiseIf (!s.ctl.queue.isEmpty) .dirDrop } := by
  simp [State.endDrain, State.flush_eq, State.reportExpired_eq, State.dropDirectives_eq, State.enterState]

theorem State.endDrainIfEmpty_of_held_nil (s : State) (hl : s.ctl.station = .leaving) (h : s.store.held = []) :
    s.endDrainIfEmpty = s.endDrain := by
  simp [State.endDrainIfEmpty, hl, (Store.heldCount_eq_zero_iff _).mpr h]

theorem State.endDrainIfEmpty_of_not (s : State) (h : ¬ (s.ctl.station = .leaving ∧ s.store.held = [])) :
    s.endDrainIfEmpty = s := by
  rw [← Store.heldCount_eq_zero_iff] at h
  simp [State.endDrainIfEmpty, h]

/-! ### The answer -/

/-- A recalled record taken out of the store, answered and counted (R143), before a drain is looked at. -/
def State.recalled (s : State) (tag : Tag) : State :=
  { s with store := s.store.removeTag tag
           sent := s.sent ++ [.recalled tag]
           mgmt := { s.mgmt with counters := { s.mgmt.counters with recalls := countUp 1 s.mgmt.counters.recalls } } }

theorem State.answerRecall_of_held (s : State) (tag : Tag) (h : ∃ d ∈ s.store.held, d.tag = tag) :
    s.answerRecall tag = (s.recalled tag).endDrainIfEmpty := by
  simp only [State.answerRecall, (s.store.hasTag_iff tag).mpr h, if_true]
  rfl

theorem State.answerRecall_of_not_held (s : State) (tag : Tag) (h : ¬ ∃ d ∈ s.store.held, d.tag = tag) :
    s.answerRecall tag = s.send (if tag ∈ s.store.history then .recallLate tag else .recallUnknown tag) := by
  rw [← Store.hasTag_iff] at h
  rw [State.answerRecall, if_neg h, apply_ite s.send]
  simp only [List.contains_iff_mem]

/-- Unless RESET is low, the next state of RECALL is that of its answer. -/
theorem exec_recall (tag : Tag) {s : State} (h : s.resetLow = false) :
    exec (.recall tag) s = .next (s.answerRecall tag) := by
  change execRecall tag s = _
  simp [execRecall, h]

/-- A drain ended with nothing held sends nothing, counts no recall and answers no frame; DIR_DROP is raised when a directive
is dropped (R106, R110). -/
theorem State.endDrain_of_held_nil (s : State) (h : s.store.held = []) :
    s.endDrain.sent = s.sent ∧ s.endDrain.mgmt.flag .dirDrop = (s.mgmt.flag .dirDrop || !s.ctl.queue.isEmpty)
      ∧ s.endDrain.mgmt.counters.recalls = s.mgmt.counters.recalls ∧ s.endDrain.mgmt.response = s.mgmt.response
      ∧ s.exitFrame s.endDrain := by
  have hmgmt : s.endDrain.mgmt = ({ s.mgmt with counters :=
      { s.mgmt.counters with expiries := countUp 0 s.mgmt.counters.expiries } }).raiseIf
        (!s.ctl.queue.isEmpty) .dirDrop := by
    simp [State.endDrain_eq, h, Mgmt.raiseIf]
  refine ⟨by simp [State.endDrain_eq, h], ?_, ?_, ?_, ?_⟩
  · rw [hmgmt, Mgmt.flag_raiseIf_self]
    rfl
  · rw [hmgmt, Mgmt.raiseIf_eq]
  · rw [hmgmt, Mgmt.raiseIf_eq]
  · rw [State.exitFrame, hmgmt, Mgmt.raiseIf_eq]
    simp [State.endDrain_eq, Sbi.releaseFor, Store.empty]

/-- Settles O47: a held tag's record is filtered out of every queue, which takes out one record where tags are distinct, and
the drain ends when that leaves a Leaving station none; any other tag is looked for in the history. -/
theorem recallsAreAnsweredFromStoreAndHistory : Obligations.RecallsAreAnsweredFromStoreAndHistory := by
  intro tag s hreset
  simp only [exec_recall tag hreset]
  refine ⟨fun hheld hstays => ?_, fun hheld hleaving hnone => ?_, fun hnodup hheld => ?_, fun q d hnodup hd htag => ?_,
    fun hheld hlate => ?_, fun hheld hunknown => ?_⟩
  · rw [s.answerRecall_of_held tag hheld, (s.recalled tag).endDrainIfEmpty_of_not hstays]
    rfl
  · obtain ⟨hsent, hflag, hrecalls, hresponse, hframe⟩ := (s.recalled tag).endDrain_of_held_nil hnone
    rw [s.answerRecall_of_held tag hheld, (s.recalled tag).endDrainIfEmpty_of_held_nil hleaving hnone]
    refine ⟨_, rfl, ?_, ?_, ?_, ?_, hsent, ?_, hrecalls, hflag, ?_, hresponse, hframe⟩ <;> rw [State.endDrain_eq]
    · exact Store.held_empty _
    · rfl
    · exact Meter.enter_running _ _
    · rfl
  · obtain ⟨d, hd, rfl⟩ := hheld
    have hcount := (perm_cons_filter_tag hnodup hd).length_eq
    rw [List.length_cons, ← Store.held_removeTag] at hcount
    exact hcount.symm
  · subst htag
    have hqueue : (s.store.queues[q].map (·.tag)).Nodup := hnodup.sublist ((s.store.queue_sublist_held q).map _)
    exact (congrArg (queuedCells · + d.cells) (s.store.queues_removeTag d.tag q)).trans (queuedCells_filter_tag hqueue hd)
  · rw [s.answerRecall_of_not_held tag hheld, if_pos hlate]
    rfl
  · rw [s.answerRecall_of_not_held tag hheld, if_neg hunknown]
    rfl

end Sys2Proof.Machine

/-! PROOF. The release history (R142): what each operation of the blocks leaves of it, block by block, then what a
command does; and what a pacer step sends. -/

namespace Sys2Proof.Machine

open Sys2Proof

/-! ### The store's own operations -/

section
variable (st : Store)

@[simp] theorem Store.take_history (d : Descriptor) : (st.take d).history = st.history := rfl
@[simp] theorem Store.removeTag_history (tag : Tag) : (st.removeTag tag).history = st.history := rfl
@[simp] theorem Store.ageing_history (limit : Nat) : (st.ageing limit).history = st.history := rfl
@[simp] theorem Store.shift_history : st.shift.history = st.history := rfl
@[simp] theorem Store.empty_history : st.empty.history = st.history := rfl

end

/-! ### The shared operations -/

/-- A choice of two states with the history of `s` has the history of `s`. -/
theorem State.ite_history {c : Prop} [Decidable c] {s t u : State} (ht : t.store.history = s.store.history)
    (hu : u.store.history = s.store.history) : (if c then t else u).store.history = s.store.history := by
  split
  · exact ht
  · exact hu

section
variable (s : State)

@[simp] theorem State.modCounters_history (f : Counters → Counters) :
    (s.modCounters f).store.history = s.store.history := rfl
@[simp] theorem State.recordBus_history (e : BusEvent) : (s.recordBus e).store.history = s.store.history := rfl
@[simp] theorem State.recordConfig_history (e : ConfigEvent) : (s.recordConfig e).store.history = s.store.history := rfl
@[simp] theorem State.raise_history (e : Event) : (s.raise e).store.history = s.store.history := rfl
@[simp] theorem State.advanceTo_history (t : Nat) : (s.advanceTo t).store.history = s.store.history := rfl
@[simp] theorem State.enterJoining_history : s.enterJoining.store.history = s.store.history := rfl
@[simp] theorem State.enterResync_history : s.enterResync.store.history = s.store.history := rfl
@[simp] theorem State.enterActive_history : s.enterActive.store.history = s.store.history := rfl
@[simp] theorem State.enterListening_history : s.enterListening.store.history = s.store.history := rfl

@[simp] theorem State.recordBusIf_history (c : Bool) (e : BusEvent) :
    (s.recordBusIf c e).store.history = s.store.history := State.ite_history rfl rfl

@[simp] theorem State.raiseIf_history (c : Bool) (e : Event) : (s.raiseIf c e).store.history = s.store.history :=
  State.ite_history rfl rfl

@[simp] theorem State.setFaults_history (f : LineFaults) : (s.setFaults f).store.history = s.store.history := by
  simp [State.setFaults]

@[simp] theorem State.modFaults_history (f : LineFaults → LineFaults) :
    (s.modFaults f).store.history = s.store.history := s.setFaults_history _

@[simp] theorem State.reportExpired_history (ds : List Descriptor) (r : ExpiryReason) :
    (s.reportExpired ds r).store.history = s.store.history := by
  rw [State.reportExpired_eq]

@[simp] theorem State.flush_history (r : ExpiryReason) : (s.flush r).store.history = s.store.history := by
  simp [State.flush]

@[simp] theorem State.dropDirectives_history : s.dropDirectives.store.history = s.store.history := by
  simp [State.dropDirectives]

@[simp] theorem State.endDrain_history : s.endDrain.store.history = s.store.history := by
  simp [State.endDrain]

@[simp] theorem State.endDrainIfEmpty_history : s.endDrainIfEmpty.store.history = s.store.history :=
  State.ite_history s.endDrain_history rfl

@[simp] theorem State.enterFenced_history : s.enterFenced.store.history = s.store.history := by
  simp [State.enterFenced]

@[simp] theorem State.enterExcluded_history (cause : Cause) :
    (s.enterExcluded cause).store.history = s.store.history := by
  simp [State.enterExcluded]

end

/-! ### The descriptor link -/

section
variable (s : State) (tag : Tag)

@[simp] theorem State.answerOffer_history (target cls : Byte) (length : BitVec 16) :
    (s.answerOffer tag target cls length).store.history = s.store.history := by
  unfold State.answerOffer
  split
  · simp [State.refuseOffer]
  · simp [State.takeOffer]

@[simp] theorem State.answerRecall_history : (s.answerRecall tag).store.history = s.store.history := by
  unfold State.answerRecall
  split_ifs <;> simp

@[simp] theorem State.takeReport_history (target : Byte) (cells : BitVec 16) :
    (s.takeReport target cells).store.history = s.store.history := by
  unfold State.takeReport
  split_ifs <;> simp

end

/-! ### The load -/

section
variable (s : State)

@[simp] theorem State.failLoad_history (cause : Cause) (position : FailurePosition) :
    (s.failLoad cause position).store.history = s.store.history := rfl
@[simp] theorem State.failRange_history (sec : Section) (offset : Nat) :
    (s.failRange sec offset).store.history = s.store.history := rfl
@[simp] theorem State.failDigest_history (sec : Section) : (s.failDigest sec).store.history = s.store.history := rfl
@[simp] theorem State.completeLoad_history (settings : Settings) :
    (s.completeLoad settings).store.history = s.store.history := rfl
@[simp] theorem State.beginRead_history (phase : LoadPhase) (g : Granules) :
    (s.beginRead phase g).store.history = s.store.history := rfl
@[simp] theorem State.countCorrection_history : s.countCorrection.store.history = s.store.history := rfl

@[simp] theorem State.headerRead_history (d : List Byte) : (s.headerRead d).store.history = s.store.history :=
  State.ite_history rfl (State.ite_history rfl (State.ite_history rfl (State.ite_history rfl rfl)))

@[simp] theorem State.planRead_history (d : List Byte) : (s.planRead d).store.history = s.store.history := by
  unfold State.planRead
  split
  · simp
  · dsimp only
    split <;> simp

@[simp] theorem State.localRead_history (d : List Byte) : (s.localRead d).store.history = s.store.history := by
  unfold State.localRead
  split
  · simp
  · split <;> simp

@[simp] theorem State.sectionRead_history (d : List Byte) : (s.sectionRead d).store.history = s.store.history := by
  unfold State.sectionRead
  split <;> simp

@[simp] theorem State.takeGranule_history (data : BitVec 64) : (s.takeGranule data).store.history = s.store.history := by
  unfold State.takeGranule
  exact State.ite_history (by simp) rfl

@[simp] theorem State.readGranule_history (outcome : GranuleOutcome) :
    (s.readGranule outcome).store.history = s.store.history := by
  cases outcome <;> simp [State.readGranule]

end

/-! ### The census, the tally and the settle -/

section
variable (s : State)

@[simp] theorem State.adoptFirstActive_history (n : Notice) :
    (s.adoptFirstActive n).store.history = s.store.history := State.ite_history rfl rfl

@[simp] theorem State.hearNotice_history (k : StationNo) (n : Notice) :
    (s.hearNotice k n).store.history = s.store.history := s.adoptFirstActive_history n

@[simp] theorem State.addReason_history (f : VetoReasons → VetoReasons) :
    (s.addReason f).store.history = s.store.history := State.ite_history rfl rfl

@[simp] theorem State.badSlot_history (e : BusEvent) : (s.badSlot e).store.history = s.store.history := by
  simp [State.badSlot]

@[simp] theorem State.badDirective_history (e : BusEvent) : (s.badDirective e).store.history = s.store.history := by
  simp [State.badDirective]

@[simp] theorem State.receiveSlot_history (k : StationNo) (r : Reception 344) :
    (s.receiveSlot k r).store.history = s.store.history := by
  cases r with
  | silent => rfl
  | malformed => simp [State.receiveSlot]
  | framed x =>
    unfold State.receiveSlot
    dsimp only
    split <;> simp

@[simp] theorem State.receiveWindow_history (r : Reception 54) :
    (s.receiveWindow r).store.history = s.store.history := by
  cases r with
  | silent => rfl
  | malformed => simp [State.receiveWindow]
  | framed x =>
    unfold State.receiveWindow
    dsimp only
    split <;> simp

@[simp] theorem State.verdict_history (ps : List (StationNo × Notice)) :
    (s.verdict ps).store.history = s.store.history := by
  unfold State.verdict
  split
  · rfl
  · split
    · split_ifs <;> rfl
    · rfl

@[simp] theorem State.outcome_history (ps : List (StationNo × Notice)) :
    (s.outcome ps).store.history = s.store.history := by
  unfold State.outcome
  split
  · rfl
  · exact State.ite_history rfl rfl

@[simp] theorem State.tally_history : s.tally.store.history = s.store.history := by
  cases h : s.ctl.station with
  | listening =>
    simp only [State.tally, h]
    split <;> rfl
  | _ => simp [State.tally, h]

@[simp] theorem State.countIgnored_history (received : Option DirectiveFrame) :
    (s.countIgnored received).store.history = s.store.history := by
  cases received with
  | none => rfl
  | some d => exact State.ite_history rfl rfl

@[simp] theorem State.completeSettle_history : s.completeSettle.store.history = s.store.history := by
  simp [State.completeSettle]

@[simp] theorem State.startSettle_history : s.startSettle.store.history = s.store.history :=
  State.ite_history rfl s.tally_history

end

/-! ### Marks -/

section
variable (s : State)

@[simp] theorem State.voidAtCut_history (vetoed : Bool) : (s.voidAtCut vetoed).store.history = s.store.history :=
  State.ite_history rfl rfl

@[simp] theorem State.promote_history : s.promote.store.history = s.store.history := by
  simp [State.promote]

@[simp] theorem State.completeDirective_history (cut : Bool) :
    (s.completeDirective cut).store.history = s.store.history := by
  unfold State.completeDirective
  split_ifs <;> rfl

@[simp] theorem State.endEpoch_history (cut : Bool) : (s.endEpoch cut).store.history = s.store.history := by
  cases cut <;> simp [State.endEpoch]

@[simp] theorem State.age_history : s.age.store.history = s.store.history := by
  simp only [State.age, State.endDrainIf]
  split <;> simp [State.expireAged]

@[simp] theorem State.listenEpoch_history (pass : Bool) : (s.listenEpoch pass).store.history = s.store.history := by
  unfold State.listenEpoch State.countListen
  split_ifs <;> simp

@[simp] theorem State.drainEpoch_history : s.drainEpoch.store.history = s.store.history := by
  unfold State.drainEpoch State.countDrainEpoch
  split <;> simp

@[simp] theorem State.matched_history : s.matched.store.history = s.store.history := State.ite_history rfl rfl

@[simp] theorem State.applyResult_history : s.applyResult.store.history = s.store.history := by
  unfold State.applyResult
  split <;> simp

@[simp] theorem State.controlMark_history (cut vetoed pass : Bool) :
    (s.controlMark cut vetoed pass).store.history = s.store.history := by
  unfold State.controlMark
  split <;> simp [apply_ite State.store, apply_ite Store.history]

@[simp] theorem State.beginEpoch_history : s.beginEpoch.store.history = s.store.history := by
  simp [State.beginEpoch, State.markMonitors, State.reload]

@[simp] theorem State.deliverMark_history (ends cut ageingFirst : Bool) :
    (s.deliverMark ends cut ageingFirst).store.history = s.store.history := by
  unfold State.deliverMark State.epochMark State.firstMark State.controlAndAge
  split_ifs <;> simp

@[simp] theorem State.localMark_history (ageingFirst : Bool) :
    (s.localMark ageingFirst).store.history = s.store.history := by
  simp [State.localMark]

@[simp] theorem State.timerExpired_history (sync : Level) (ageingFirst : Bool) :
    (s.timerExpired sync ageingFirst).store.history = s.store.history := by
  unfold State.timerExpired
  split_ifs <;> simp

@[simp] theorem State.settleDue_history : s.settleDue.store.history = s.store.history :=
  State.ite_history s.completeSettle_history rfl

@[simp] theorem State.takeTrueMark_history (ageingFirst : Bool) :
    (s.takeTrueMark ageingFirst).store.history = s.store.history := by
  simp [State.takeTrueMark, State.countMark, State.sbiTrueMark]

end

/-! ### Line faults, slots and windows -/

section
variable (s : State)

@[simp] theorem State.syncHigh_history : s.syncHigh.store.history = s.store.history := by
  simp [State.syncHigh]

@[simp] theorem State.beginStall_history : s.beginStall.store.history = s.store.history := by
  simp [State.beginStall]

@[simp] theorem State.endStall_history : s.endStall.store.history = s.store.history := by
  simp [State.endStall]

@[simp] theorem State.clearSdatLow_history : s.clearSdatLow.store.history = s.store.history :=
  State.ite_history (s.modFaults_history _) rfl

@[simp] theorem State.withdraw_history : s.withdraw.store.history = s.store.history := rfl
@[simp] theorem State.openVeto_history : s.openVeto.store.history = s.store.history := rfl

@[simp] theorem State.openSlot_history (slot : StationNo) : (s.openSlot slot).store.history = s.store.history := by
  unfold State.openSlot
  split
  · split <;> rfl
  · rfl

@[simp] theorem State.mismatch_history (place : Place) (bitTime : Nat) :
    (s.mismatch place bitTime).store.history = s.store.history := by
  simp [State.mismatch]

@[simp] theorem State.handOver_history (n : Notice) : (s.handOver n).store.history = s.store.history :=
  State.ite_history (s.hearNotice_history s.own n) rfl

@[simp] theorem State.closeOwnSlot_history (n : Notice) (lead : Bool) :
    (s.closeOwnSlot n lead).store.history = s.store.history := by
  unfold State.closeOwnSlot
  exact State.ite_history (by simp) (by simp)

@[simp] theorem State.deliverSlot_history (slot : StationNo) (samples : BitVec 400) :
    (s.deliverSlot slot samples).store.history = s.store.history := by
  unfold State.deliverSlot
  split
  · exact State.ite_history (by simp) (by simp)
  · simp
  · simp

@[simp] theorem State.closeSlot_history (slot : StationNo) (samples : BitVec 400) (lineFirst : Bool) :
    (s.closeSlot slot samples lineFirst).store.history = s.store.history := by
  simp [State.closeSlot, State.slotFault]

@[simp] theorem State.contend_history : s.contend.store.history = s.store.history := by
  unfold State.contend
  split
  · exact State.ite_history rfl rfl
  · rfl

@[simp] theorem State.windowResult_history (o : WindowOutcome) :
    (s.windowResult o).store.history = s.store.history := by
  cases o <;> rfl

@[simp] theorem State.closeWindow_history (samples : BitVec 400) :
    (s.closeWindow samples).store.history = s.store.history := by
  simp [State.closeWindow]

@[simp] theorem State.sampleVeto_history (level : Level) : (s.sampleVeto level).store.history = s.store.history :=
  State.ite_history rfl rfl

end

/-! ### Frames and commands -/

/-- The history stands, or a reset has emptied it (R142). -/
def State.HistoryKeptOrReset (s t : State) : Prop :=
  t.store.history = s.store.history ∨ (t.store.history = [] ∧ t.ctl.station = .booting)

/-- A write transaction that is not run changes the response at most. -/
theorem State.receiveFrame_cases (s : State) (bytes : List Byte) (offByte : Bool)
    (run : Command → List Byte → State → State) :
    s.receiveFrame bytes offByte run = s ∨ (∃ status, s.receiveFrame bytes offByte run = s.respond status [])
      ∨ ∃ c p, s.receiveFrame bytes offByte run = run c p s := by
  unfold State.receiveFrame
  split
  · split
    · exact .inl rfl
    · exact .inr (.inl ⟨_, rfl⟩)
    · exact .inr (.inr ⟨_, _, rfl⟩)
  · exact .inl rfl

/-- A frame does to the history what the command it runs does. -/
theorem State.receiveFrame_historyKeptOrReset (s : State) (bytes : List Byte) (offByte : Bool)
    {run : Command → List Byte → State → State} (hrun : ∀ c p, s.HistoryKeptOrReset (run c p s)) :
    s.HistoryKeptOrReset (s.receiveFrame bytes offByte run) := by
  obtain h | ⟨status, h⟩ | ⟨c, p, h⟩ := s.receiveFrame_cases bytes offByte run <;> rw [h]
  · exact .inl rfl
  · exact .inl rfl
  · exact hrun c p

section
variable (s : State) (p : List Byte)

@[simp] theorem State.respond_history (status : Status) (data : List Byte) :
    (s.respond status data).store.history = s.store.history := rfl
@[simp] theorem State.clearEvents_history : (s.clearEvents p).store.history = s.store.history := rfl
@[simp] theorem State.setEventMask_history : (s.setEventMask p).store.history = s.store.history := rfl
@[simp] theorem State.clearCaptures_history : (s.clearCaptures p).store.history = s.store.history := rfl
@[simp] theorem State.clearCounters_history : s.clearCounters.store.history = s.store.history := rfl

@[simp] theorem State.readView_history : (s.readView p).store.history = s.store.history := by
  unfold State.readView
  dsimp only
  split
  · rfl
  · exact State.ite_history rfl rfl

@[simp] theorem State.postDirective_history : (s.postDirective p).store.history = s.store.history := by
  unfold State.postDirective
  refine State.ite_history rfl (State.ite_history rfl ?_)
  split <;> rfl

@[simp] theorem State.depart_history : (s.depart p).store.history = s.store.history := by
  unfold State.depart
  exact State.ite_history rfl (State.ite_history rfl (by simp [State.beginDrain]))

@[simp] theorem State.rejoin_history (sync : Level) : (s.rejoin sync).store.history = s.store.history := by
  unfold State.rejoin State.reenterListening
  exact State.ite_history rfl (State.ite_history (by simp) rfl)

/-- A reset leaves no history, and the station in Booting (R12, R136). -/
theorem State.restart_historyKeptOrReset (straps : StationNo) : s.HistoryKeptOrReset (s.restart straps) :=
  .inr ⟨rfl, rfl⟩

theorem State.runCommand_historyKeptOrReset (straps : StationNo) (sync : Level) (c : Command) :
    s.HistoryKeptOrReset (State.runCommand straps sync c p s) := by
  cases c with
  | restart => exact s.restart_historyKeptOrReset straps
  | _ => exact .inl (by simp [State.runCommand])

end

/-- No command but PACER_STEP puts a tag into the history or takes one out of it, unless it resets the station (R142). -/
theorem exec_historyKeptOrReset {c : Instr} {s t : State} (hexec : exec c s = .next t) (hc : c ≠ .pacerStep) :
    s.HistoryKeptOrReset t := by
  cases c <;> obtain rfl := Host.Outcome.next.inj hexec
  case pacerStep => exact absurd rfl hc
  case powerOnReset | pinReset => exact .inr ⟨rfl, rfl⟩
  case pinResetRelease =>
    split
    · exact .inr ⟨rfl, rfl⟩
    · exact .inl rfl
  case restart straps _ =>
    exact s.receiveFrame_historyKeptOrReset _ _ fun _ _ => s.restart_historyKeptOrReset straps
  case unknownCommand straps sync _ =>
    exact s.receiveFrame_historyKeptOrReset _ _ fun c p => s.runCommand_historyKeptOrReset p straps sync c
  case depart | rejoin | postDirective | readView | clearEvents | setEventMask | clearCaptures | clearCounters =>
    exact s.receiveFrame_historyKeptOrReset _ _ fun _ _ => .inl (by simp)
  case readbackMismatch =>
    refine .inl (State.ite_history ?_ rfl)
    split
    · exact State.ite_history rfl (by simp)
    · simp
    · rfl
  case linkMessageDiscard =>
    refine .inl (State.ite_history rfl ?_)
    split <;> simp
  case syncDriveEnd => exact .inl rfl
  all_goals exact .inl (State.ite_history (by simp) (by simp))

/-! ### The pacer -/

/-- A release reported to the Station Controller ends a drain at most (R106). -/
theorem State.reportRelease_cases (s : State) :
    ∃ u : State, u.store = s.store ∧ u.sent = s.sent ∧ (s.reportRelease = u ∨ s.reportRelease = u.endDrain) := by
  unfold State.reportRelease
  split
  · refine ⟨s.modCtl fun c => { c with drainProgress := satInc 4095 c.drainProgress }, rfl, rfl, ?_⟩
    dsimp only
    split
    · exact .inr rfl
    · unfold State.endDrainIfEmpty
      split
      · exact .inr rfl
      · exact .inl rfl
  · exact ⟨s, rfl, rfl, .inl rfl⟩

/-- What follows a release tells the datapath of expired descriptors alone, and leaves the history. -/
theorem State.reportRelease_sent_history (s : State) :
    (∃ ds : List Descriptor, s.reportRelease.sent = s.sent ++ ds.map fun d => LinkMessage.expired d.tag .depart)
      ∧ s.reportRelease.store.history = s.store.history := by
  obtain ⟨u, hstore, hsent, h | h⟩ := s.reportRelease_cases <;> rw [h, ← hstore, ← hsent]
  · exact ⟨⟨[], by simp⟩, rfl⟩
  · exact ⟨⟨u.store.held, by rw [State.endDrain_eq]⟩, u.endDrain_history⟩

/-- A ring slot's visit does nothing, or releases the head of a queue and reports it (R155). -/
theorem State.visit_cases (s : State) (slot : RingSlot) :
    s.visit slot = s ∨ ∃ (q : Fin 12) (d : Descriptor) (rest : List Descriptor), s.store.queues[q] = d :: rest
      ∧ s.visit slot = (s.chargeRelease q d).reportRelease := by
  unfold State.visit
  dsimp only
  split
  · exact .inl rfl
  · split
    · exact .inl rfl
    next d rest hqueue =>
      split
      · exact .inr ⟨_, d, rest, hqueue, rfl⟩
      · exact .inl rfl

/-- A pacer step visits a ring slot at most, and then writes the meter alone (R155). -/
theorem State.pace_cases (s : State) :
    s.pace = s ∨ ∃ slot, s.pace = (s.visit slot).modMeter fun m => m.advance slot s.settings.ring.length := by
  unfold State.pace
  split
  · exact .inl rfl
  · split
    · exact .inl rfl
    · exact .inr ⟨_, rfl⟩

/-- What a pacer step does to the store and to the messages: nothing, or the release of the head of a queue. -/
theorem exec_pacerStep_cases (s : State) : ∃ t, exec .pacerStep s = .next t ∧
    ((t.sent = s.sent ∧ t.store = s.store)
      ∨ ∃ (q : Fin 12) (d : Descriptor) (rest : List Descriptor), s.store.queues[q] = d :: rest
        ∧ t.sent = (s.reachStep.chargeRelease q d).reportRelease.sent
        ∧ t.store = (s.reachStep.chargeRelease q d).reportRelease.store) := by
  refine ⟨_, rfl, ?_⟩
  split
  · obtain h | ⟨slot, h⟩ := s.reachStep.pace_cases <;> rw [h]
    · exact .inl ⟨rfl, rfl⟩
    · obtain hnone | ⟨q, d, rest, hqueue, hone⟩ := s.reachStep.visit_cases slot
      · rw [hnone]
        exact .inl ⟨rfl, rfl⟩
      · rw [hone]
        exact .inr ⟨q, d, rest, hqueue, rfl, rfl⟩
  · exact .inl ⟨rfl, rfl⟩

/-! ### RESTART's frame -/

/-- A frame with its check byte right and its parameters in number is taken, in every check mode, once its command is served
(R162). -/
theorem judge_checkedFrame (s : State) (mode : CheckMode) (booting : Bool) (c : Command) (p : List Byte)
    (hp : p.length = c.parameters) :
    judge mode booting (frameBytes c (checkedFrame s c p)) false =
      if booting && !c.inBooting p then .refused .notReady else .taken c p := by
  have hcode : Command.ofByte c.code = some c := by cases c <;> decide
  have hlength : (byte p.length).toNat = p.length := by rw [hp]; cases c <;> decide
  have hcheck (b : Byte) : checkRefusal mode (some b) b = none := by cases mode <;> simp [checkRefusal]
  simp [judge, frameBytes, checkedFrame, hlength, hcheck, hcode, ← hp]

theorem State.addressed_checkedFrame (s : State) (c : Command) (p : List Byte) (h : s.resetLow = false) :
    s.addressed (frameBytes c (checkedFrame s c p)) = true := by
  simp [State.addressed, frameBytes, checkedFrame, h]

/-- RESTART is served in every state, Booting too (R162, R164). -/
theorem exec_restart_checkedFrame (straps : StationNo) (s : State) (h : s.resetLow = false) :
    exec (.restart straps (checkedFrame s .restart [])) s = .next (s.restart straps) := by
  change execRestart straps _ s = _
  have hjudge : s.judgeFrame (frameBytes .restart (checkedFrame s .restart [])) (checkedFrame s .restart []).offByte =
      .taken .restart [] :=
    (judge_checkedFrame s _ _ .restart [] rfl).trans (if_neg (by simp [Command.inBooting]))
  simp [execRestart, State.receiveFrame, s.addressed_checkedFrame .restart [] h, hjudge]

/-- Settles O48: a pacer step's one RELEASE is that of the head it takes from its queue into the history, and what the
blocks do at any other command leaves the history, but for the resets. -/
theorem onlyReleasesEnterTheHistory : Obligations.OnlyReleasesEnterTheHistory := by
  refine ⟨fun s => ?_, fun straps s hreset c hc => ?_, fun c s t hexec hc => exec_historyKeptOrReset hexec hc⟩
  · obtain ⟨t, hexec, ⟨hsent, hstore⟩ | ⟨q, d, rest, hqueue, hsent, hstore⟩⟩ := exec_pacerStep_cases s
    · exact ⟨t, [], hexec, by simp [hsent], .inl ⟨by simp, by rw [hstore]⟩⟩
    · obtain ⟨⟨ds, hds⟩, hhistory⟩ := (s.reachStep.chargeRelease q d).reportRelease_sent_history
      refine ⟨t, .release d.tag :: ds.map fun e => .expired e.tag .depart, hexec, ?_,
        .inr ⟨q, d, rest, _, hqueue, rfl, by simp, ?_⟩⟩
      · rw [hsent, hds]
        exact List.append_assoc s.sent [.release d.tag] _
      · rw [hstore, hhistory, List.drop_one]
        rfl
  · simp only [List.mem_cons, List.not_mem_nil, or_false] at hc
    obtain rfl | rfl | rfl := hc
    · exact ⟨_, rfl, rfl⟩
    · exact ⟨_, rfl, rfl⟩
    · exact ⟨_, exec_restart_checkedFrame straps s hreset, rfl⟩

end Sys2Proof.Machine

/-! PROOF. What a station in service does, move by move. Every command that is no reset and no granule read is a chain of
the moves below, each of which one block makes within what the rules let it write; so an invariant is shown once for each
move, and not once for each command. -/

namespace Sys2Proof.Machine

open Sys2Proof

/-! ### Flags -/

section
variable (m : Mgmt) (c : Bool) (e : Event)

@[simp] theorem Mgmt.raiseIf_counters : (m.raiseIf c e).counters = m.counters := by cases c <;> rfl
@[simp] theorem Mgmt.raiseIf_response : (m.raiseIf c e).response = m.response := by cases c <;> rfl
@[simp] theorem Mgmt.raiseIf_transaction : (m.raiseIf c e).transaction = m.transaction := by cases c <;> rfl
@[simp] theorem Mgmt.raiseIf_mask : (m.raiseIf c e).mask = m.mask := by cases c <;> rfl
@[simp] theorem Mgmt.raiseIf_checkMode : (m.raiseIf c e).checkMode = m.checkMode := by cases c <;> rfl
@[simp] theorem Mgmt.raiseIf_bus : (m.raiseIf c e).bus = m.bus := by cases c <;> rfl
@[simp] theorem Mgmt.raiseIf_agreement : (m.raiseIf c e).agreement = m.agreement := by cases c <;> rfl
@[simp] theorem Mgmt.raiseIf_directive : (m.raiseIf c e).directive = m.directive := by cases c <;> rfl
@[simp] theorem Mgmt.raiseIf_config : (m.raiseIf c e).config = m.config := by cases c <;> rfl

theorem Mgmt.flag_raiseIf_ne {f : Event} (h : f ≠ e) : (m.raiseIf c e).flag f = m.flag f := by
  cases c
  · rfl
  · cases e <;> cases f <;> simp_all [Mgmt.raiseIf, Mgmt.raise, Mgmt.flag, eventBit, Event.bit]

end

/-! ### The moves -/

/-- What a command may write into the SBI, line faults aside, while the station state stands. -/
structure State.SbiMove (s : State) (b : Sbi) : Prop where
  faults : b.faults = s.sbi.faults
  timer : b.timer ≤ s.sbi.timer
  clash : b.clashStreak ≤ max s.sbi.clashStreak 2
  phase : b.phase = s.sbi.phase ∨ b.phase ≠ .unaligned
    ∧ (b.phase = .stalled ∨ s.sbi.phase ≠ .stalled ∨ s.sbi.faults.syncLow = false)
  sync : b.syncDrive = .released ∨ s.sbi.syncDrive ≠ .released ∨ drivesSync s.ctl.station = true
  veto : b.vetoDrive = false ∨ s.sbi.vetoDrive = true ∨ s.ctl.station = .active
  readback : b.readback ≠ .driving ∨ (s.sbi.readback = .driving ∧ b.txBuffer = s.sbi.txBuffer)
    ∨ permitsFrame s.ctl.station b.txBuffer = true
  frame : b.txBuffer = s.sbi.txBuffer ∨ b.sendsAs s.own = true

theorem State.SbiMove.sync_of_eq {s : State} {d : SyncDrive} (h : d = s.sbi.syncDrive) :
    d = .released ∨ s.sbi.syncDrive ≠ .released ∨ drivesSync s.ctl.station = true := by
  rw [h]; tauto

theorem State.SbiMove.veto_of_eq {s : State} {v : Bool} (h : v = s.sbi.vetoDrive) :
    v = false ∨ s.sbi.vetoDrive = true ∨ s.ctl.station = .active := by
  rw [h]; cases s.sbi.vetoDrive <;> simp

theorem State.SbiMove.readback_of_eq {s : State} {r : Readback} {x : Option TxFrame} (hr : r = s.sbi.readback)
    (hx : x = s.sbi.txBuffer) :
    r ≠ .driving ∨ (s.sbi.readback = .driving ∧ x = s.sbi.txBuffer) ∨ permitsFrame s.ctl.station x = true := by
  rw [hr, hx]; tauto

/-- A write that leaves what the lines are driven with: the timer, the clash streak and the phase position are its own. -/
theorem State.SbiMove.of_lines {s : State} {b : Sbi} (hf : b.faults = s.sbi.faults) (ht : b.timer ≤ s.sbi.timer)
    (hc : b.clashStreak ≤ max s.sbi.clashStreak 2)
    (hp : b.phase = s.sbi.phase ∨ b.phase ≠ .unaligned
      ∧ (b.phase = .stalled ∨ s.sbi.phase ≠ .stalled ∨ s.sbi.faults.syncLow = false))
    (hs : b.syncDrive = s.sbi.syncDrive) (hv : b.vetoDrive = s.sbi.vetoDrive) (hr : b.readback = s.sbi.readback)
    (hx : b.txBuffer = s.sbi.txBuffer) : s.SbiMove b where
  faults := hf
  timer := ht
  clash := hc
  phase := hp
  sync := State.SbiMove.sync_of_eq hs
  veto := State.SbiMove.veto_of_eq hv
  readback := State.SbiMove.readback_of_eq hr hx
  frame := .inl hx

/-- A write that ends what is sent on SDAT. -/
theorem State.SbiMove.of_abandon {s : State} {b : Sbi} (hf : b.faults = s.sbi.faults) (ht : b.timer ≤ s.sbi.timer)
    (hc : b.clashStreak ≤ max s.sbi.clashStreak 2)
    (hp : b.phase = s.sbi.phase ∨ b.phase ≠ .unaligned
      ∧ (b.phase = .stalled ∨ s.sbi.phase ≠ .stalled ∨ s.sbi.faults.syncLow = false))
    (hs : b.syncDrive = .released ∨ s.sbi.syncDrive ≠ .released ∨ drivesSync s.ctl.station = true)
    (hv : b.vetoDrive = false ∨ b.vetoDrive = s.sbi.vetoDrive) (hr : b.readback = .idle) (hx : b.txBuffer = none) :
    s.SbiMove b where
  faults := hf
  timer := ht
  clash := hc
  phase := hp
  sync := hs
  veto := hv.elim .inl State.SbiMove.veto_of_eq
  readback := .inl (by simp [hr])
  frame := .inr (by simp [Sbi.sendsAs, hx])

/-- What a command may write into the Peer Table entry of a number (R44, R47, R49). -/
inductive State.PeerMove (s : State) (k : StationNo) : PeerEntry → Prop where
  | kept : s.PeerMove k (s.census.entry k)
  | cleared : s.PeerMove k PeerEntry.reset
  | silent : s.PeerMove k ((s.census.entry k).silent s.plan.missLimit)
  | heard (n : Notice) (seq : Seq) (h : n.sender = k ∨ (s.sbi.txBuffer = some (.notice n) ∧ k = s.own)) :
      s.PeerMove k { state := .heard, contents := some n, missCount := 0, lastHeard := seq }

/-- What a command may do in the Allocation Engine (R62, R63, R73, R75). -/
inductive State.AllocMove (s : State) : Alloc → Prop where
  | formVoid : s.AllocMove (s.alloc.formVoid s.plan)
  | promote : s.AllocMove s.alloc.promote
  | handOver (c : Census) : s.AllocMove { s.alloc with settle := .inFlight, handOver := some c }
  | complete (members guests : StationMask) (pressure : TargetSet) (a : Admin) (demand : StationNo → Fin 12 → Nat) :
      s.AllocMove { s.alloc with
        pending := some (computedRecord s.plan members guests pressure a demand), pendingVoid := 0, settle := .complete
        handOver := none }

/-- What a command may do to a monitor in use (R125, R126, R128, R129). -/
inductive MonitorMove (th : Thresholds) (m : Monitor) : Monitor → Prop where
  | kept : MonitorMove th m m
  | masked : MonitorMove th m { m with state := .masked, highCount := 0, lowCount := 0, marks := 0 }
  | endMask : MonitorMove th m (m.endMask th.debounce)
  | mark : MonitorMove th m m.mark
  | read (n : Nat) : MonitorMove th m (m.read th n)

/-- What a command may do in the Descriptor Store (R138, R140 to R143, R145, R109). -/
inductive State.StoreMove (s : State) : Store → Prop where
  | take (tag : Tag) (target cls : Byte) (length : BitVec 16) (d : Descriptor)
      (h : s.judgeOffer tag target cls length = .taken d) : s.StoreMove (s.store.take d)
  | removeTag (tag : Tag) : s.StoreMove (s.store.removeTag tag)
  | ageing : s.StoreMove (s.store.ageing s.settings.ageLimit)
  | shift : s.StoreMove s.store.shift
  | empty : s.StoreMove s.store.empty

/-- What a command may do to a credit counter, releases aside (R149). -/
inductive State.CreditMove (s : State) (q : Fin 12) : Int → Prop where
  | kept : s.CreditMove q s.meter.credits[q]
  | reload : s.CreditMove q
      (reloaded s.admin.percents[queueTarget q] (s.reloadGrant q) s.settings.banks[queueClass q] s.meter.credits[q])

/-- A flag is lost at a clear command alone, which spares those whose condition holds (R166). -/
def State.SparesFlags (s : State) (m : Mgmt) : Prop :=
  ∀ e, s.mgmt.flag e = true → s.condition e = true → m.flag e = true

/-- No flag is lost. -/
def State.KeepsFlags (s : State) (m : Mgmt) : Prop := ∀ e, s.mgmt.flag e = true → m.flag e = true

/-- The station has a phase position, unless it is in Listening; it has one while SYNC is stuck low (R24, R36). -/
def State.Aligned (s : State) : Prop :=
  s.ctl.station ≠ .listening ∨ s.sbi.phase ≠ .unaligned ∨ s.sbi.faults.syncLow = true

/-- A station leaves Listening aligned alone, and goes out of service with no directive queued (R97, R110). -/
def State.MayEnter (s : State) (st : StationState) : Prop :=
  observes st = true
    ∧ (st = .listening ∨ s.Aligned)
    ∧ (st = .quiet ∨ st = .fenced ∨ st = .excluded → s.ctl.queue = [])

/-- One move of a station in service; `A` says whether the command may write the allocation. No move writes the event mask. -/
inductive Move (A : Prop) : State → State → Prop where
  | report (s : State) (m : Mgmt) (sent : List LinkMessage) (h : s.SparesFlags m) (hk : m.mask = s.mgmt.mask) :
      Move A s { s with mgmt := m, sent := sent }
  | time (s : State) (d : Nat) : Move A s (s.passTime d)
  | faults (s : State) (f : LineFaults)
      (h : f.syncLow = true → s.sbi.faults.syncLow = true ∨ s.sbi.phase = .stalled) : Move A s (s.setFaults f)
  | sbi (s : State) (b : Sbi) (h : s.SbiMove b) : Move A s { s with sbi := b }
  | census (s : State) (c : Census) (h : ∀ k, s.PeerMove k (c.entry k)) : Move A s { s with census := c }
  | alloc (s : State) (a : Alloc) (h : s.AllocMove a) (hA : A) : Move A s { s with alloc := a }
  | ctl (s : State) (c : Control) (h : c.station = s.ctl.station)
      (hq : c.queue.length ≤ s.ctl.queue.length ∨ (s.ctl.station = .active ∧ c.queue.length ≤ 4)) :
      Move A s { s with ctl := c }
  | enter (s : State) (st : StationState) (m : Mgmt) (h : s.MayEnter st) (hm : s.KeepsFlags m)
      (hf : st = .fenced → m.flag .fenced = true) (he : st = .excluded → m.flag .excluded = true)
      (hk : m.mask = s.mgmt.mask) :
      Move A s { s.enterState st with mgmt := m }
  | monitors (s : State) (v : Vector Monitor 4) (m : Mgmt)
      (h : ∀ t : Fin 4, if inUse s t then MonitorMove s.settings.monitors[t] s.monitors[t] v[t] else v[t] = s.monitors[t])
      (hm : s.KeepsFlags m)
      (hs : ∀ t : Fin 4, inUse s t = true → v[t].state = .stale → s.monitors[t].state = .stale ∨ m.flag .stale = true)
      (hk : m.mask = s.mgmt.mask) :
      Move A s { s with monitors := v, mgmt := m }
  | store (s : State) (st : Store) (h : s.StoreMove st) : Move A s { s with store := st }
  | meter (s : State) (m : Meter) (h : ∀ q : Fin 12, s.CreditMove q m.credits[q]) (hr : m.running = s.meter.running) :
      Move A s { s with meter := m }
  | release (s : State) (q : Fin 12) (d : Descriptor) (rest : List Descriptor) (hq : s.store.queues[q] = d :: rest)
      (hc : 0 < s.meter.credits[q]) :
      Move A s { s with store := s.store.release q d
                        meter := { s.meter with credits := s.meter.credits.set q (s.meter.credits[q] - d.cells) } }

/-- A chain of moves. -/
abbrev State.Evolves (A : Prop) : State → State → Prop := Relation.ReflTransGen (Move A)

/-! ### What moves leave -/

/-- No move touches the loader, the queue of commands or the RESET pin. -/
theorem Move.keepsFrame {A : Prop} {s t : State} (h : Move A s t) : s.Keeps t := by
  cases h with
  | faults f h => exact .setFaults s f
  | _ => exact ⟨rfl, rfl, rfl⟩

/-- A move leaves a station in service so. -/
theorem Move.stays_in_service {A : Prop} {s t : State} (h : Move A s t) (ho : observes s.ctl.station = true) :
    observes t.ctl.station = true := by
  cases h with
  | faults f h => rw [State.setFaults_eq]; exact ho
  | ctl c h hq => simpa [h] using ho
  | enter st m h => exact h.1
  | _ => exact ho

theorem State.Evolves.keepsFrame {A : Prop} {s t : State} (h : s.Evolves A t) : s.Keeps t := by
  induction h with
  | refl => exact .refl s
  | tail _ hm ih => exact ih.trans hm.keepsFrame

theorem State.Evolves.frame {A : Prop} {s t : State} (h : s.Evolves A t) (ho : observes s.ctl.station = true) :
    s.Keeps t ∧ observes t.ctl.station = true := by
  refine ⟨h.keepsFrame, ?_⟩
  induction h with
  | refl => exact ho
  | tail _ hm ih => exact hm.stays_in_service ih

/-- What every move in service keeps, every chain of moves keeps. -/
theorem State.Evolves.keeps {P : State → Prop} {A : Prop} {s t : State} (h : s.Evolves A t) (ho : observes s.ctl.station = true)
    (hP : P s)
    (hstep : ∀ u v : State, observes u.ctl.station = true → u.loader = s.loader → Move A u v → P u → P v) : P t := by
  induction h with
  | refl => exact hP
  | tail hs hm ih =>
    obtain ⟨hkeeps, hobs⟩ := State.Evolves.frame hs ho
    exact hstep _ _ hobs hkeeps.loader hm ih

/-- No chain of moves writes the event mask. -/
theorem State.Evolves.mask {A : Prop} {s t : State} (h : s.Evolves A t) : t.mgmt.mask = s.mgmt.mask := by
  induction h with
  | refl => rfl
  | tail _ hm ih =>
    refine Eq.trans ?_ ih
    cases hm with
    | report m sent h hk => exact hk
    | faults f h =>
      rw [State.setFaults_eq]
      exact Mgmt.raiseIf_mask _ _ _
    | enter st m h hm hf he hk => exact hk
    | monitors v m h hm hs hk => exact hk
    | _ => rfl

/-- A chain of moves that may not write the allocation leaves it. -/
theorem State.Evolves.alloc {s t : State} (h : s.Evolves False t) : t.alloc = s.alloc := by
  induction h with
  | refl => rfl
  | tail _ hm ih =>
    refine Eq.trans ?_ ih
    cases hm with
    | faults f h => rw [State.setFaults_eq]
    | alloc a h hA => exact hA.elim
    | _ => rfl

end Sys2Proof.Machine

/-! PROOF. The shared operations and the work of the blocks as chains of moves. -/

namespace Sys2Proof.Machine

open Sys2Proof

/-! ### Flags -/

/-- A flag raised leaves the flags that are set. -/
theorem Mgmt.flag_raise_of_flag {m : Mgmt} {e : Event} (h : m.flag e = true) (f : Event) : (m.raise f).flag e = true := by
  simp only [Mgmt.flag, Mgmt.raise, BitVec.getLsbD_or] at h ⊢
  rw [h, Bool.true_or]

theorem Mgmt.flag_raiseIf_of_flag {m : Mgmt} {e : Event} (h : m.flag e = true) (c : Bool) (f : Event) :
    (m.raiseIf c f).flag e = true := by
  cases c
  · exact h
  · exact Mgmt.flag_raise_of_flag h f

theorem Mgmt.flag_raise_self (m : Mgmt) (e : Event) : (m.raise e).flag e = true := by
  simpa [Mgmt.raiseIf] using m.flag_raiseIf_self true e

/-! ### The moves of one block -/

namespace State.Evolves

variable {A : Prop}

section
variable (s : State)

theorem refl : s.Evolves A s := Relation.ReflTransGen.refl

theorem of {t : State} (h : Move A s t) : s.Evolves A t := Relation.ReflTransGen.single h

theorem report (m : Mgmt) (sent : List LinkMessage) (h : s.KeepsFlags m) (hk : m.mask = s.mgmt.mask) :
    s.Evolves A { s with mgmt := m, sent := sent } := of s (.report s m sent (fun e he _ => h e he) hk)

theorem modMgmt (f : Mgmt → Mgmt) (h : s.KeepsFlags (f s.mgmt)) (hk : (f s.mgmt).mask = s.mgmt.mask) :
    s.Evolves A (s.modMgmt f) := report s _ s.sent h hk

theorem modCounters (f : Counters → Counters) : s.Evolves A (s.modCounters f) := modMgmt s _ (fun _ h => h) rfl
theorem recordBus (e : BusEvent) : s.Evolves A (s.recordBus e) := modMgmt s _ (fun _ h => h) rfl
theorem recordBusIf (c : Bool) (e : BusEvent) : s.Evolves A (s.recordBusIf c e) := by
  cases c
  · exact refl s
  · exact recordBus s e
theorem send (m : LinkMessage) : s.Evolves A (s.send m) := report s s.mgmt _ (fun _ h => h) rfl
theorem respond (status : Status) (data : List Byte) : s.Evolves A (s.respond status data) := modMgmt s _ (fun _ h => h) rfl
theorem raise (e : Event) : s.Evolves A (s.raise e) := modMgmt s _ (fun _ h => Mgmt.flag_raise_of_flag h e) rfl
theorem raiseIf (c : Bool) (e : Event) : s.Evolves A (s.raiseIf c e) := by
  cases c
  · exact refl s
  · exact raise s e

theorem passTime (d : Nat) : s.Evolves A (s.passTime d) := of s (.time s d)
theorem advanceTo (t : Nat) : s.Evolves A (s.advanceTo t) := passTime s _

theorem modFaults (f : LineFaults → LineFaults)
    (h : (f s.sbi.faults).syncLow = true → s.sbi.faults.syncLow = true ∨ s.sbi.phase = .stalled) :
    s.Evolves A (s.modFaults f) := of s (.faults s _ h)

theorem modSbi (f : Sbi → Sbi) (h : s.SbiMove (f s.sbi)) : s.Evolves A (s.modSbi f) := of s (.sbi s _ h)

theorem modCensus (f : Census → Census) (h : ∀ k, s.PeerMove k ((f s.census).entry k)) : s.Evolves A (s.modCensus f) :=
  of s (.census s _ h)

/-- What the Census Unit holds beside the Peer Table is free. -/
theorem modCensus_rest (f : Census → Census) (h : (f s.census).peers = s.census.peers) : s.Evolves A (s.modCensus f) :=
  modCensus s f fun k => by
    have e : (f s.census).entry k = s.census.entry k := by simp only [Census.entry, h]
    rw [e]
    exact .kept

theorem modAlloc (f : Alloc → Alloc) (h : s.AllocMove (f s.alloc)) : s.Evolves True (s.modAlloc f) :=
  of s (.alloc s _ h trivial)

theorem modCtl (f : Control → Control) (h : (f s.ctl).station = s.ctl.station)
    (hq : (f s.ctl).queue.length ≤ s.ctl.queue.length) : s.Evolves A (s.modCtl f) := of s (.ctl s _ h (.inl hq))

theorem modStore (f : Store → Store) (h : s.StoreMove (f s.store)) : s.Evolves A (s.modStore f) := of s (.store s _ h)

/-- The pacer's position, halt and time are free. -/
theorem modMeter_rest (f : Meter → Meter) (h : (f s.meter).credits = s.meter.credits)
    (hr : (f s.meter).running = s.meter.running) : s.Evolves A (s.modMeter f) :=
  of s (.meter s _ (fun q => by rw [h]; exact .kept) hr)

theorem modMonitors (f : Fin 4 → Monitor → Monitor)
    (h : ∀ t : Fin 4, MonitorMove s.settings.monitors[t] s.monitors[t] (f t s.monitors[t]))
    (hs : ∀ t : Fin 4, (f t s.monitors[t]).state = .stale → s.monitors[t].state = .stale) :
    s.Evolves A (s.modMonitors fun t m => if inUse s t then f t m else m) := by
  refine of s (.monitors s _ s.mgmt (fun t => ?_) (fun _ h => h) (fun t hu hst => .inl (hs t ?_)) rfl)
  · cases hu : inUse s t
    · simp [hu]
    · simpa [hu] using h t
  · simpa [hu] using hst

/-- Entry to a state that raises no flag. -/
theorem enterState (st : StationState) (h : s.MayEnter st) (hf : st ≠ .fenced) (he : st ≠ .excluded) :
    s.Evolves A (s.enterState st) :=
  of s (.enter s st s.mgmt h (fun _ h => h) (fun e => absurd e hf) (fun e => absurd e he) rfl)

end

/-! ### Shared operations -/

section
variable (s : State)

theorem reportExpired (ds : List Descriptor) (r : ExpiryReason) : s.Evolves A (s.reportExpired ds r) := by
  have hmsg : s.Evolves A { s with sent := s.sent ++ ds.map fun (d : Descriptor) => LinkMessage.expired d.tag r } :=
    report s s.mgmt _ (fun _ h => h) rfl
  exact (hmsg.trans (modCounters _ _)).trans (raiseIf _ _ _)

theorem flush (r : ExpiryReason) : s.Evolves A (s.flush r) :=
  (reportExpired s _ r).trans (modStore _ _ .empty)

theorem dropDirectives : s.Evolves A s.dropDirectives :=
  (modCtl s _ rfl (Nat.zero_le _)).trans (raiseIf _ _ _)

/-- Out of service: the store flushed, the Directive Queue dropped. -/
theorem flush_dropDirectives (r : ExpiryReason) : s.Evolves A (s.flush r).dropDirectives :=
  (flush s r).trans (dropDirectives _)

end

end State.Evolves

/-- After the flush and the drop a station may go out of service. -/
theorem State.mayEnter_of_dropped (s : State) (r : ExpiryReason) (h : s.Aligned) {st : StationState}
    (ho : observes st = true) : (s.flush r).dropDirectives.MayEnter st := by
  refine ⟨ho, .inr ?_, fun _ => by rw [State.dropDirectives_eq]⟩
  simpa [State.Aligned, State.dropDirectives_eq, State.flush_eq, State.reportExpired_eq] using h

namespace State.Evolves

variable {A : Prop}

section
variable {s : State}

theorem endDrain (h : s.Aligned) : s.Evolves A s.endDrain :=
  (flush_dropDirectives s _).trans (enterState _ _ (s.mayEnter_of_dropped _ h rfl) (by decide) (by decide))

theorem endDrainIfEmpty (s : State) : s.Evolves A s.endDrainIfEmpty := by
  obtain ⟨hl, -, h⟩ | h := s.endDrainIfEmpty_cases <;> rw [h]
  exact endDrain (.inl (by simp [hl]))

theorem enterFenced (h : s.Aligned) : s.Evolves A s.enterFenced :=
  (flush_dropDirectives s _).trans
    (of _ (.enter _ .fenced (Mgmt.raise _ .fenced) (s.mayEnter_of_dropped _ h rfl)
      (fun _ hf => Mgmt.flag_raise_of_flag hf _) (fun _ => Mgmt.flag_raise_self _ _) (by simp) rfl))

theorem enterExcluded (h : s.Aligned) (cause : Cause) : s.Evolves A (s.enterExcluded cause) := by
  have hm := s.mayEnter_of_dropped .exclude h (st := .excluded) rfl
  have hin := (flush_dropDirectives (A := A) s .exclude).trans
    (of _ (.enter _ .excluded (Mgmt.raise _ .excluded) hm
      (fun _ hf => Mgmt.flag_raise_of_flag hf _) (by simp) (fun _ => Mgmt.flag_raise_self _ _) rfl))
  exact hin.trans (modCtl _ (fun c => { c with cause := cause }) rfl le_rfl)

theorem enterJoining (h : s.Aligned) : s.Evolves A s.enterJoining :=
  (enterState s .joining ⟨rfl, .inr h, by simp⟩ (by decide) (by decide)).trans (modCtl _ _ rfl le_rfl)

theorem enterResync (h : s.Aligned) : s.Evolves A s.enterResync :=
  (enterState s .resync ⟨rfl, .inr h, by simp⟩ (by decide) (by decide)).trans (modCtl _ _ rfl le_rfl)

theorem enterActive (h : s.Aligned) : s.Evolves A s.enterActive := by
  refine (enterState s .active ⟨rfl, .inr h, by simp⟩ (by decide) (by decide)).trans
    (modMonitors (s.enterState .active) (fun t m => m.endMask s.settings.monitors[t].debounce) (fun _ => .endMask)
      fun t => ?_)
  unfold Monitor.endMask
  split_ifs <;> simp

end

/-- Entry to Listening from a state in service. -/
theorem enterListening (s : State) : s.Evolves A s.enterListening := by
  have hctl := (enterState (A := A) s .listening ⟨rfl, .inl rfl, by simp⟩ (by decide) (by decide)).trans
    (modCtl _ (fun c => { c with listenCount := 0, streak := 0 }) rfl le_rfl)
  have hcensus := hctl.trans
    (modCensus _ (fun c => { c with peers := Vector.replicate 16 PeerEntry.reset, activeHeard := false }) fun k => by
      simp only [Census.entry, Vector.getElem_replicate]
      exact .cleared)
  have hsbi := hcensus.trans (modSbi _ (fun b => { b with clashStreak := 0, running := true })
    (.of_lines rfl le_rfl (Nat.zero_le _) (.inl rfl) rfl rfl rfl rfl))
  exact hsbi.trans (modMonitors _ (fun _ m => { m with state := .masked, highCount := 0, lowCount := 0, marks := 0 })
    (fun _ => .masked) (by simp))

/-! ### Marks -/

section
variable (s : State)

theorem voidAtCut (vetoed : Bool) : s.Evolves True (s.voidAtCut vetoed) := by
  have h := modAlloc s (fun a => a.formVoid s.plan) .formVoid
  cases vetoed
  · exact h.trans (modCounters _ fun c => { c with voidEpochs := countUp 1 c.voidEpochs })
  · exact h

theorem promote : s.Evolves True s.promote := (modAlloc s _ .promote).trans (raiseIf _ _ _)

theorem completeDirective (cut : Bool) : s.Evolves A (s.completeDirective cut) := by
  unfold State.completeDirective
  split_ifs
  · exact modCtl s _ rfl le_rfl
  · exact (modCtl s (fun c => { c with queue := c.queue.tail, awaiting := false }) rfl
      (by simp)).trans (raise _ _)
  · exact refl s

theorem endEpoch (cut : Bool) : s.Evolves True (s.endEpoch cut) := by
  cases cut
  · exact (promote s).trans (completeDirective _ _)
  · exact ((voidAtCut s _).trans (promote _)).trans (completeDirective _ _)

theorem endDrainIf (c : Bool) : s.Evolves A (s.endDrainIf c) := by
  cases c
  · exact refl s
  · exact endDrainIfEmpty s

theorem age : s.Evolves A s.age := by
  have hlimit : s.expireAged.settings.ageLimit = s.settings.ageLimit := by
    rw [State.expireAged, State.reportExpired_eq]
  have hageing : s.expireAged.StoreMove (s.expireAged.store.ageing s.settings.ageLimit) := hlimit ▸ .ageing
  exact ((reportExpired s _ _).trans (modStore _ (fun st => st.ageing s.settings.ageLimit) hageing)).trans (endDrainIf _ _)

end

section
variable {s : State}

theorem listenEpoch (h : s.Aligned) (pass : Bool) : s.Evolves A (s.listenEpoch pass) := by
  have hcount : s.Evolves A s.countListen := modCtl s _ rfl le_rfl
  unfold State.listenEpoch
  split_ifs
  · exact hcount.trans (enterJoining h)
  · exact hcount.trans (enterExcluded (s := s.countListen) h _)
  · exact hcount

theorem drainEpoch (h : s.Aligned) : s.Evolves A s.drainEpoch := by
  have hcount : s.Evolves A s.countDrainEpoch := modCtl s _ rfl le_rfl
  unfold State.drainEpoch
  split_ifs
  · exact hcount.trans (endDrain h)
  · exact hcount

theorem matched (h : s.Aligned) : s.Evolves A s.matched := by
  have hcount : s.Evolves A (s.modCtl fun c => { c with streak := satInc 2 c.streak }) := modCtl s _ rfl le_rfl
  unfold State.matched
  split_ifs
  · exact hcount.trans (enterActive h)
  · exact hcount

theorem applyResult (h : s.Aligned) : s.Evolves A s.applyResult := by
  unfold State.applyResult
  split
  · exact enterResync h
  · exact matched h
  · exact matched h
  · exact modCtl s _ rfl le_rfl
  · exact modCtl s _ rfl le_rfl
  · exact enterActive h
  · exact enterActive h
  · exact refl s

theorem controlMark (h : s.Aligned) (cut vetoed pass : Bool) : s.Evolves A (s.controlMark cut vetoed pass) := by
  unfold State.controlMark
  split <;> try split_ifs
  · exact listenEpoch h pass
  all_goals first
    | exact enterFenced h
    | exact applyResult h
    | exact drainEpoch h
    | exact enterJoining h
    | exact refl s

end

end State.Evolves

end Sys2Proof.Machine

/-! PROOF. Marks, settles, slots, windows, the management port and the pacer as chains of moves; then every command. -/

namespace Sys2Proof.Machine

open Sys2Proof

/-! ### The phase position under the work of a mark -/

section
variable (s : State)

@[simp] theorem State.promote_sbi : s.promote.sbi = s.sbi := by simp [State.promote, State.raiseIf_eq]
@[simp] theorem State.promote_ctl : s.promote.ctl = s.ctl := by simp [State.promote, State.raiseIf_eq]
@[simp] theorem State.voidAtCut_sbi (v : Bool) : (s.voidAtCut v).sbi = s.sbi := by cases v <;> rfl
@[simp] theorem State.voidAtCut_ctl (v : Bool) : (s.voidAtCut v).ctl = s.ctl := by cases v <;> rfl

@[simp] theorem State.completeDirective_sbi (cut : Bool) : (s.completeDirective cut).sbi = s.sbi := by
  unfold State.completeDirective
  split_ifs <;> rfl

@[simp] theorem State.completeDirective_station (cut : Bool) :
    (s.completeDirective cut).ctl.station = s.ctl.station := by
  unfold State.completeDirective
  split_ifs <;> rfl

@[simp] theorem State.endEpoch_sbi (cut : Bool) : (s.endEpoch cut).sbi = s.sbi := by
  cases cut <;> simp [State.endEpoch]

@[simp] theorem State.endEpoch_station (cut : Bool) : (s.endEpoch cut).ctl.station = s.ctl.station := by
  cases cut <;> simp [State.endEpoch]

/-- What the ageing of a mark leaves, a drain's end aside: the expired reported, the others a mark older (R145). -/
def State.agedStore (s : State) : State := s.expireAged.modStore fun st => st.ageing s.settings.ageLimit

@[simp] theorem State.agedStore_ctl : s.agedStore.ctl = s.ctl := by
  simp [State.agedStore, State.expireAged, State.reportExpired_eq]
@[simp] theorem State.agedStore_sbi : s.agedStore.sbi = s.sbi := by
  simp [State.agedStore, State.expireAged, State.reportExpired_eq]

/-- The ageing ends a drain at most (R106). -/
theorem State.age_cases :
    s.age = s.agedStore ∨ (s.ctl.station = .leaving ∧ s.agedStore.store.held = [] ∧ s.age = s.agedStore.endDrain) := by
  have e : s.age = s.agedStore.endDrainIf (!(s.store.aged s.settings.ageLimit).isEmpty) := rfl
  rw [e, State.endDrainIf]
  split
  · obtain ⟨hl, hz, h⟩ | h := s.agedStore.endDrainIfEmpty_cases
    · exact .inr ⟨by simpa using hl, (Store.heldCount_eq_zero_iff _).mp hz, h⟩
    · exact .inl h
  · exact .inl rfl

theorem State.aligned_age (h : s.Aligned) : s.age.Aligned := by
  obtain e | ⟨-, -, e⟩ := s.age_cases <;> rw [e]
  · simpa [State.Aligned] using h
  · exact .inl (by rw [State.endDrain_eq]; simp)

theorem State.aligned_endEpoch (cut : Bool) (h : s.Aligned) : (s.endEpoch cut).Aligned := by
  simpa [State.Aligned] using h

end

namespace State.Evolves

variable {A : Prop}

/-! ### Marks -/

section
variable (s : State)

theorem markMonitors : s.Evolves A s.markMonitors := by
  have e : s.markMonitors =
      { s with monitors := (s.modMonitors fun t m => if inUse s t then m.mark else m).monitors
               mgmt := s.mgmt.raiseIf (allTargets.any fun t => inUse s t && s.monitors[t].goesStale) .stale } := by
    rw [State.markMonitors, State.raiseIf_eq]
    rfl
  rw [e]
  refine of s (.monitors s _ _ (fun t => ?_) (fun _ h => Mgmt.flag_raiseIf_of_flag h _ _)
    (fun t hu hst => ?_) (Mgmt.raiseIf_mask _ _ _))
  · cases hu : inUse s t
    · simp [hu]
    · simpa [hu] using MonitorMove.mark
  · by_cases hold : s.monitors[t].state = .stale
    · exact .inl hold
    · refine .inr ?_
      have hgoes : (allTargets.any fun t => inUse s t && s.monitors[t].goesStale) = true := by
        rw [List.any_eq_true]
        refine ⟨t, by fin_cases t <;> simp [allTargets], ?_⟩
        have hmark : s.monitors[t].mark.state = .stale := by simpa [hu] using hst
        rw [hu, Monitor.goesStale, hmark, bne_iff_ne.mpr hold]
        rfl
      rw [hgoes, Mgmt.flag_raiseIf_self, Bool.or_true]

theorem reload : s.Evolves A s.reload :=
  of s (.meter s _ (fun q => by simpa using State.CreditMove.reload) rfl)

theorem beginEpoch : s.Evolves A s.beginEpoch :=
  (((modStore s _ .shift).trans (markMonitors _)).trans (modCensus_rest _ _ rfl)).trans (reload _)

theorem firstMark : s.Evolves A s.firstMark := (age s).trans (beginEpoch _)

variable {s}

theorem epochMark (h : s.Aligned) (cut first : Bool) : s.Evolves True (s.epochMark cut first) := by
  have hend := s.aligned_endEpoch cut h
  have hwork : (s.endEpoch cut).Evolves True ((s.endEpoch cut).controlAndAge first fun t =>
      t.controlMark cut s.decidedVoid (planCheck s.planSplit)) := by
    cases first
    · exact (controlMark hend _ _ _).trans (age _)
    · exact (age _).trans (controlMark (State.aligned_age _ hend) _ _ _)
  exact ((endEpoch s cut).trans hwork).trans (beginEpoch _)

theorem deliverMark (ends cut first : Bool) (h : ends = true → s.Aligned) :
    s.Evolves True (s.deliverMark ends cut first) := by
  cases ends
  · exact firstMark s
  · exact epochMark (h rfl) cut first

theorem localMark (h : s.Aligned) (first : Bool) : s.Evolves True (s.localMark first) :=
  ((modCounters s _).trans (deliverMark true true first fun _ => h)).trans
    (modSbi _ _ (.of_abandon rfl (Nat.zero_le _) (le_max_left _ _) (.inl rfl)
      (State.SbiMove.sync_of_eq rfl) (.inl rfl) rfl rfl))

theorem timerExpired (hd : drivesSync s.ctl.station = true) (sync : Level) (first : Bool) :
    s.Evolves True (s.timerExpired sync first) := by
  unfold State.timerExpired
  split_ifs with hlow
  · exact localMark (.inr (.inr hlow)) first
  · exact modSbi s _ ⟨rfl, le_rfl, le_max_left _ _, .inl rfl, .inr (.inr hd), State.SbiMove.veto_of_eq rfl,
      State.SbiMove.readback_of_eq rfl rfl, .inl rfl⟩
  · exact refl s

theorem syncHigh (s : State) : s.Evolves A s.syncHigh :=
  ((modFaults s (fun f => { f with syncHigh := true }) .inl).trans (recordBusIf _ _ _)).trans
    (modSbi _ _ (.of_abandon rfl le_rfl (le_max_left _ _) (.inr ⟨by simp, .inl rfl⟩) (.inl rfl) (.inr rfl) rfl rfl))

theorem sbiTrueMark (s : State) : s.Evolves A s.sbiTrueMark := by
  refine (modFaults s (fun f => { f with syncLow := false, syncHigh := false }) (by simp)).trans
    (modSbi _ _ (.of_abandon rfl (Nat.zero_le _) (le_max_left _ _) (.inr ⟨by simp, .inr (.inr ?_)⟩) ?_ (.inl rfl) rfl rfl))
  · rw [State.modFaults, State.setFaults_eq]
  · dsimp only
    split_ifs with ha
    · exact .inr (.inl (by simp [ha]))
    · exact State.SbiMove.sync_of_eq (s := s.modFaults _) rfl

theorem completeSettle (s : State) : s.Evolves True s.completeSettle := by
  have hcount : s.Evolves True (s.countIgnored s.handedOver.census.received) := by
    unfold State.countIgnored
    split
    · exact refl s
    · split_ifs
      · exact refl s
      · exact (modCounters s _).trans (modMgmt _ _ (fun _ h => h) rfl)
  refine hcount.trans (modAlloc _ _ ?_)
  have hplan : (s.countIgnored s.handedOver.census.received).plan = s.handedOver.plan :=
    congrArg (·.plan) (State.Keeps.countIgnored s _).loader
  rw [State.settledRecord, ← hplan]
  exact .complete _ _ _ _ _

theorem settleDue (s : State) : s.Evolves True s.settleDue := by
  unfold State.settleDue
  split_ifs
  · exact completeSettle s
  · exact refl s

end

end State.Evolves

section
variable (s : State)

@[simp] theorem State.countIgnored_sbi (d : Option DirectiveFrame) : (s.countIgnored d).sbi = s.sbi := by
  unfold State.countIgnored
  repeat' split
  all_goals rfl

@[simp] theorem State.countIgnored_ctl (d : Option DirectiveFrame) : (s.countIgnored d).ctl = s.ctl := by
  unfold State.countIgnored
  repeat' split
  all_goals rfl

@[simp] theorem State.completeSettle_sbi : s.completeSettle.sbi = s.sbi := by simp [State.completeSettle]
@[simp] theorem State.completeSettle_ctl : s.completeSettle.ctl = s.ctl := by simp [State.completeSettle]

@[simp] theorem State.settleDue_sbi : s.settleDue.sbi = s.sbi := by
  unfold State.settleDue
  split_ifs <;> simp

@[simp] theorem State.settleDue_ctl : s.settleDue.ctl = s.ctl := by
  unfold State.settleDue
  split_ifs <;> simp

theorem Phase.rank_after_le (p : Phase) (timer : Nat) (h : p.rank ≤ 20) : (p.after timer).rank ≤ 20 := by
  cases p <;> simp only [Phase.after] <;> (try split_ifs) <;> simp_all [Phase.rank]

/-- A phase of the epoch has not become another kind of position by the passing of time. -/
theorem State.advanceTo_rank_le (time : Nat) (h : s.sbi.phase.rank ≤ 20) : (s.advanceTo time).sbi.phase.rank ≤ 20 := by
  simp only [State.advanceTo, State.passTime_sbi, Sbi.passTime]
  split
  · exact Phase.rank_after_le _ _ h
  · exact h

theorem Phase.ne_of_rank_le {p : Phase} (h : p.rank ≤ 20) : p ≠ .stalled ∧ p ≠ .unaligned := by
  constructor <;> rintro rfl <;> simp [Phase.rank] at h

end

namespace State.Evolves

variable {A : Prop}

theorem takeTrueMark (s : State) (first : Bool) : s.Evolves True (s.takeTrueMark first) := by
  refine (((settleDue s).trans (modCounters _ _)).trans (deliverMark _ _ _ fun hin => .inr (.inl ?_))).trans (sbiTrueMark _)
  simpa [Sbi.inEpoch, State.modCounters] using hin

/-! ### Stalls -/

theorem beginStall (s : State) : s.Evolves A s.beginStall := by
  have hphase : s.Evolves A (s.modSbi fun b => { b.abandon with phase := .stalled, vetoDrive := false }) :=
    modSbi s _ (.of_abandon rfl le_rfl (le_max_left _ _) (.inr ⟨by simp, .inl rfl⟩)
      (State.SbiMove.sync_of_eq rfl) (.inl rfl) rfl rfl)
  have hfault := hphase.trans (modFaults _ (fun f => { f with syncLow := true }) fun _ => .inr rfl)
  have hbus := hfault.trans (recordBus _ (.syncLow s.sbi.seq))
  have e : s.beginStall = ((s.modSbi fun b => { b.abandon with phase := .stalled, vetoDrive := false }).modFaults
      fun f => { f with syncLow := true }).recordBus (.syncLow s.sbi.seq) := by
    simp [State.beginStall, State.modFaults, State.setFaults_eq, State.recordBus_eq, State.modSbi, Sbi.abandon]
  exact e ▸ hbus

theorem endStall (s : State) : s.Evolves A s.endStall := by
  refine (modFaults s (fun f => { f with syncLow := false }) (by simp)).trans
    (modSbi _ _ (.of_lines rfl le_rfl (le_max_left _ _) (.inr ⟨by simp, .inr (.inr ?_)⟩) rfl rfl rfl rfl))
  rw [State.modFaults, State.setFaults_eq]

/-! ### The tally and the settle -/

section
variable (s : State)

theorem setResult (r : TallyResult) : s.Evolves A (s.setResult r) := modCensus_rest s _ rfl

theorem modSeq (seq : Seq) : s.Evolves A (s.modSbi fun b => { b with seq := seq }) :=
  modSbi s _ (.of_lines rfl le_rfl (le_max_left _ _) (.inl rfl) rfl rfl rfl rfl)

theorem adopt (n : Notice) : s.Evolves A (s.adopt n) := (modSeq s _).trans (modCensus_rest _ _ rfl)

theorem minorityVerdict (own m : Notice) (ps : List (StationNo × Notice)) : s.Evolves A (s.minorityVerdict own m ps) := by
  unfold State.minorityVerdict
  exact ((setResult s _).trans (raise _ _)).trans (modMgmt _ _ (fun _ h => h) rfl)

theorem tally : s.Evolves A s.tally := by
  have hverdict : s.Evolves A (s.verdict s.participants) := by
    unfold State.verdict
    split_ifs
    · exact refl s
    · split
      · exact setResult s _
      · exact setResult s _
    · split
      · split_ifs
        · exact setResult s _
        · exact minorityVerdict s _ _ _
      · exact setResult s _
  have houtcome : s.Evolves A (s.outcome s.participants) := by
    unfold State.outcome
    split
    · exact setResult s _
    · split_ifs
      · exact setResult s _
      · exact (adopt s _).trans (setResult _ _)
  unfold State.tally
  split
  · exact hverdict
  · exact hverdict
  · exact houtcome
  · exact houtcome
  · split
    · exact refl s
    · exact adopt s _
  all_goals exact refl s

theorem startSettle : s.Evolves True s.startSettle := by
  unfold State.startSettle
  split_ifs
  · exact ((modAlloc s (fun a => a.formVoid s.plan) .formVoid).trans (modCounters _ _)).trans (modCtl _ _ rfl le_rfl)
  · exact (tally s).trans (modAlloc _ _ (.handOver _))

end

/-! ### Slots and windows -/

section
variable {s : State}

/-- The phase position moved on inside the epoch. -/
theorem modPhase (h : s.sbi.phase.rank ≤ 20) (p : Phase) (hp : p ≠ .unaligned) :
    s.Evolves A (s.modSbi fun b => { b with phase := p }) :=
  modSbi s _ (.of_lines rfl le_rfl (le_max_left _ _) (.inr ⟨hp, .inr (.inl (Phase.ne_of_rank_le h).1)⟩) rfl rfl rfl rfl)

/-- What is on SDAT ended, and the phase position moved on inside the epoch. -/
theorem modAbandon (h : s.sbi.phase.rank ≤ 20) (p : Phase) (w : Bool → Bool) (hp : p ≠ .unaligned) :
    s.Evolves A (s.modSbi fun b => { b.abandon with phase := p, windowClosed := w b.windowClosed }) :=
  modSbi s _ (.of_abandon rfl le_rfl (le_max_left _ _)
    (.inr ⟨hp, .inr (.inl (Phase.ne_of_rank_le h).1)⟩) (State.SbiMove.sync_of_eq rfl) (.inr rfl) rfl rfl)

theorem openSlot (s : State) (slot : StationNo) : s.Evolves A (s.openSlot slot) := by
  unfold State.openSlot
  split
  · split
    next status hstatus =>
      refine modSbi s _ ⟨rfl, le_rfl, le_max_left _ _, .inl rfl, State.SbiMove.sync_of_eq rfl,
        State.SbiMove.veto_of_eq rfl, .inr (.inr ?_), .inr ?_⟩
      · simp [permitsFrame, hstatus]
      · simp [Sbi.sendsAs, State.composeNotice]
    · exact refl s
  · exact refl s

theorem addReason (s : State) (f : VetoReasons → VetoReasons) : s.Evolves A (s.addReason f) := by
  unfold State.addReason
  split_ifs
  · exact modCensus_rest s _ rfl
  · exact refl s

theorem mismatch (s : State) (place : Place) (bitTime : Nat) : s.Evolves A (s.mismatch place bitTime) :=
  (((modSbi s _ ⟨rfl, le_rfl, le_max_left _ _, .inl rfl, State.SbiMove.sync_of_eq rfl,
    State.SbiMove.veto_of_eq rfl, .inl (by simp), .inl rfl⟩).trans (raise _ _)).trans (recordBus _ _)).trans (addReason _ _)

theorem withdraw (s : State) : s.Evolves A s.withdraw :=
  modSbi s _ ⟨rfl, le_rfl, le_max_left _ _, .inl rfl, State.SbiMove.sync_of_eq rfl, State.SbiMove.veto_of_eq rfl,
    .inl (by simp), .inl rfl⟩

theorem badSlot (s : State) (e : BusEvent) : s.Evolves A (s.badSlot e) :=
  ((modCounters s _).trans (recordBus _ _)).trans (addReason _ _)

theorem badDirective (s : State) (e : BusEvent) : s.Evolves A (s.badDirective e) :=
  ((modCounters s _).trans (recordBus _ _)).trans (addReason _ _)

end

end State.Evolves

theorem Census.entry_setEntry (c : Census) (k j : StationNo) (e : PeerEntry) :
    (c.setEntry k e).entry j = if k = j then e else c.entry j := by
  simp only [Census.entry, Census.setEntry, Vector.getElem_set, BitVec.toNat_inj]

/-- An entry written for the one number leaves the others. -/
theorem State.peerMove_setEntry {s : State} {k : StationNo} {e : PeerEntry} (h : s.PeerMove k e) (j : StationNo) :
    s.PeerMove j ((s.census.setEntry k e).entry j) := by
  rw [Census.entry_setEntry]
  split
  next hkj => exact hkj ▸ h
  · exact .kept

namespace State.Evolves

variable {A : Prop}

section
variable {s : State}

theorem hearNotice (k : StationNo) (n : Notice) (h : n.sender = k ∨ (s.sbi.txBuffer = some (.notice n) ∧ k = s.own)) :
    s.Evolves A (s.hearNotice k n) := by
  have hfirst : s.Evolves A (s.adoptFirstActive n) ∧ ((s.adoptFirstActive n).sbi.txBuffer = s.sbi.txBuffer
      ∧ (s.adoptFirstActive n).own = s.own) := by
    unfold State.adoptFirstActive
    split_ifs
    · exact ⟨(modSeq s _).trans (modCensus_rest _ _ rfl), rfl, rfl⟩
    · exact ⟨refl s, rfl, rfl⟩
  obtain ⟨hevolves, htx, hown⟩ := hfirst
  unfold State.hearNotice
  exact hevolves.trans (modCensus _ _ fun j => State.peerMove_setEntry (.heard n _ (by rwa [htx, hown])) j)

theorem receiveSlot (s : State) (k : StationNo) (r : Reception 344) : s.Evolves A (s.receiveSlot k r) := by
  cases r with
  | silent => exact modCensus s (fun c => c.setEntry k ((c.entry k).silent s.plan.missLimit)) fun j =>
      State.peerMove_setEntry .silent j
  | malformed => exact badSlot s _
  | framed x =>
    unfold State.receiveSlot
    dsimp only
    split
    next n hn =>
      refine hearNotice k n (.inl ?_)
      unfold validNotice at hn
      split at hn
      · split at hn
        · simp at hn
        · split at hn
          next hvalid => rw [← Option.some.inj hn]; exact hvalid.1
          · simp at hn
      · simp at hn
    · exact badSlot s _

theorem receiveWindow (s : State) (r : Reception 54) : s.Evolves A (s.receiveWindow r) := by
  cases r with
  | silent => exact refl s
  | malformed => exact badDirective s _
  | framed x =>
    unfold State.receiveWindow
    dsimp only
    split
    · exact modCensus_rest s _ rfl
    · exact badDirective s _

end

end State.Evolves

/-- A reading leaves no monitor Stale (R126, R129). -/
theorem Monitor.read_ne_stale (th : Thresholds) (n : Nat) (m : Monitor) : (m.read th n).state ≠ .stale := by
  cases h : m.state with
  | masked => rw [Monitor.read_of_masked th n h]; split_ifs <;> simp [h]
  | clear => rw [Monitor.read_of_clear th n h]; split_ifs <;> simp [h]
  | pressed => rw [Monitor.read_of_pressed th n h]; split_ifs <;> simp [h]
  | stale => rw [Monitor.read_of_stale th n h]; simp

/-! ### The phase position at the close of a slot or window -/

section
variable (s : State)

@[simp] theorem State.adoptFirstActive_phase (n : Notice) : (s.adoptFirstActive n).sbi.phase = s.sbi.phase := by
  unfold State.adoptFirstActive; split_ifs <;> rfl
@[simp] theorem State.hearNotice_phase (k : StationNo) (n : Notice) : (s.hearNotice k n).sbi.phase = s.sbi.phase :=
  s.adoptFirstActive_phase n
@[simp] theorem State.addReason_sbi (f : VetoReasons → VetoReasons) : (s.addReason f).sbi = s.sbi := by
  unfold State.addReason; split_ifs <;> rfl
@[simp] theorem State.badSlot_sbi (e : BusEvent) : (s.badSlot e).sbi = s.sbi := by simp [State.badSlot]; rfl
@[simp] theorem State.badDirective_sbi (e : BusEvent) : (s.badDirective e).sbi = s.sbi := by
  simp [State.badDirective]; rfl
@[simp] theorem State.recordBusIf_sbi (c : Bool) (e : BusEvent) : (s.recordBusIf c e).sbi = s.sbi := by cases c <;> rfl

@[simp] theorem State.receiveSlot_phase (k : StationNo) (r : Reception 344) :
    (s.receiveSlot k r).sbi.phase = s.sbi.phase := by
  cases r with
  | silent => rfl
  | malformed => simp [State.receiveSlot]
  | framed x => unfold State.receiveSlot; dsimp only; split <;> simp

@[simp] theorem State.receiveWindow_sbi (r : Reception 54) : (s.receiveWindow r).sbi = s.sbi := by
  cases r with
  | silent => rfl
  | malformed => simp [State.receiveWindow]
  | framed x => unfold State.receiveWindow; dsimp only; split <;> simp

@[simp] theorem State.enterExcluded_phase (cause : Cause) : (s.enterExcluded cause).sbi.phase = s.sbi.phase := by
  simp [State.enterExcluded, State.raise, Sbi.releaseFor, State.dropDirectives_eq, State.flush_eq,
    State.reportExpired_eq]

@[simp] theorem State.handOver_phase (n : Notice) : (s.handOver n).sbi.phase = s.sbi.phase := by
  unfold State.handOver; split_ifs <;> simp

@[simp] theorem State.closeOwnSlot_phase (n : Notice) (lead : Bool) : (s.closeOwnSlot n lead).sbi.phase = s.sbi.phase := by
  unfold State.closeOwnSlot; dsimp only; split_ifs <;> simp

@[simp] theorem State.deliverSlot_phase (slot : StationNo) (samples : BitVec 400) :
    (s.deliverSlot slot samples).sbi.phase = s.sbi.phase := by
  unfold State.deliverSlot; split <;> (try split_ifs) <;> simp

@[simp] theorem State.modFaults_phase (f : LineFaults → LineFaults) : (s.modFaults f).sbi.phase = s.sbi.phase := by
  rw [State.modFaults, State.setFaults_eq]

@[simp] theorem State.modFaults_txBuffer (f : LineFaults → LineFaults) :
    (s.modFaults f).sbi.txBuffer = s.sbi.txBuffer := by
  rw [State.modFaults, State.setFaults_eq]

@[simp] theorem State.windowResult_sbi (o : WindowOutcome) : (s.windowResult o).sbi = s.sbi := by cases o <;> rfl

theorem clashStreakAfter_le (streak : Nat) (o : Readback) (lead : Bool) : clashStreakAfter streak o lead ≤ max streak 2 := by
  unfold clashStreakAfter
  have := satInc_le 2 streak
  split <;> (try split_ifs) <;> omega

end

namespace State.Evolves

variable {A : Prop}

section
variable {s : State}

theorem closeOwnSlot (n : Notice) (lead : Bool) (hn : s.sbi.txBuffer = some (.notice n)) (hp : s.sbi.phase.rank ≤ 20) :
    s.Evolves A (s.closeOwnSlot n lead) := by
  have hand : s.Evolves A (s.handOver n) := by
    unfold State.handOver
    split_ifs
    · exact (hearNotice s.own n (.inr ⟨hn, rfl⟩)).trans (modCensus_rest _ _ rfl)
    · exact refl s
  have hstreak := hand.trans
    (modSbi _ (fun b => { b with clashStreak := clashStreakAfter b.clashStreak b.readback lead })
      (.of_lines rfl le_rfl (clashStreakAfter_le _ _ _) (.inl rfl) rfl rfl rfl rfl))
  unfold State.closeOwnSlot
  dsimp only
  split_ifs
  · exact hstreak.trans (enterExcluded (.inr (.inl (by simpa using (Phase.ne_of_rank_le hp).2))) _)
  · exact hstreak

theorem closeSlot (slot : StationNo) (samples : BitVec 400) (first : Bool) (hp : s.sbi.phase.rank ≤ 20) :
    s.Evolves A (s.closeSlot slot samples first) := by
  have hdeliver (u : State) (hu : u.sbi.phase.rank ≤ 20) : u.Evolves A (u.deliverSlot slot samples) := by
    unfold State.deliverSlot
    split
    next n hn =>
      split_ifs
      · exact closeOwnSlot n _ hn hu
      · exact receiveSlot u _ _
    · exact receiveSlot u _ _
    · exact receiveSlot u _ _
  have hafter : phaseAfterSlot slot ≠ .unaligned := by unfold phaseAfterSlot; split_ifs <;> simp
  refine ((((modFaults s _ .inl).trans (recordBusIf _ _ _)).trans (hdeliver _ ?_)).trans (recordBusIf _ _ _)).trans
    (modAbandon (w := id) ?_ _ hafter)
  · simpa using hp
  · simpa [State.slotFault] using hp

theorem contend (s : State) : s.Evolves A s.contend := by
  unfold State.contend
  split
  · split_ifs with ha
    · refine modSbi s _ ⟨rfl, le_rfl, le_max_left _ _, .inl rfl, State.SbiMove.sync_of_eq rfl,
        State.SbiMove.veto_of_eq rfl, .inr (.inr ?_), .inr rfl⟩
      simp [permitsFrame, ha]
    · exact refl s
  · exact refl s

theorem windowResult (s : State) (o : WindowOutcome) : s.Evolves A (s.windowResult o) := by
  have hhead : s.ctl.sentHead.station = s.ctl.station ∧ s.ctl.sentHead.queue.length = s.ctl.queue.length := by
    unfold Control.sentHead
    split <;> simp [*]
  cases o with
  | sent => exact modCtl s _ hhead.1 hhead.2.le
  | _ => exact refl s

theorem closeWindow (samples : BitVec 400) (hp : s.sbi.phase.rank ≤ 20) : s.Evolves A (s.closeWindow samples) :=
  (((modFaults s _ .inl).trans (windowResult _ _)).trans (receiveWindow _ _)).trans
    (modAbandon (w := fun _ => true) (by simpa using hp) .vetoWindow (by simp))

theorem openVeto (hp : s.sbi.phase.rank ≤ 20) : s.Evolves A s.openVeto := by
  refine modSbi s _ ⟨rfl, le_rfl, le_max_left _ _, .inr ⟨by simp, .inr (.inl (Phase.ne_of_rank_le hp).1)⟩,
    State.SbiMove.sync_of_eq rfl, ?_, State.SbiMove.readback_of_eq rfl rfl, .inl rfl⟩
  by_cases ha : s.ctl.station = .active <;> simp [ha]

theorem sampleVeto (s : State) (level : Level) : s.Evolves A (s.sampleVeto level) := by
  unfold State.sampleVeto
  split_ifs
  · exact (modSbi s _ (.of_lines rfl le_rfl (le_max_left _ _) (.inl rfl) rfl rfl rfl rfl)).trans (raise _ _)
  · exact refl s

/-! ### The descriptor link -/

theorem answerOffer (s : State) (tag : Tag) (target cls : Byte) (length : BitVec 16) :
    s.Evolves A (s.answerOffer tag target cls length) := by
  unfold State.answerOffer
  split
  · exact ((send s _).trans (modCounters _ _)).trans (raiseIf _ _ _)
  next d hd => exact ((modStore s _ (.take _ _ _ _ d hd)).trans (send _ _)).trans (modCounters _ _)

theorem answerRecall (s : State) (tag : Tag) : s.Evolves A (s.answerRecall tag) := by
  unfold State.answerRecall
  split_ifs
  · exact (((modStore s _ (.removeTag tag)).trans (send _ _)).trans (modCounters _ _)).trans (endDrainIfEmpty _)
  · exact send s _
  · exact send s _

theorem takeReport (s : State) (target : Byte) (cells : BitVec 16) : s.Evolves A (s.takeReport target cells) := by
  by_cases ho : observes s.ctl.station = true
  · by_cases ht : target.toNat < s.plan.targets
    · have e : s.takeReport target cells = s.modMonitors fun t m => if inUse s t then
          (if t.val = target.toNat then m.read s.settings.monitors[t] cells.toNat else m) else m := by
        simp only [State.takeReport, ho, ht, Bool.not_true, Bool.false_eq_true, if_false, if_true]
        congr 1
        ext1 t
        ext1 m
        by_cases hv : t.val = target.toNat
        · simp [hv, inUse, ht]
        · simp [hv]
      rw [e]
      refine modMonitors s _ (fun t => ?_) fun t => ?_
      · split_ifs
        · exact .read _
        · exact .kept
      · split_ifs
        · intro hstale
          exact absurd hstale (Monitor.read_ne_stale _ _ _)
        · exact id
    · rw [State.takeReport_of_targets_le cells ho (Nat.le_of_not_lt ht)]
      exact modCounters s _
  · rw [State.takeReport_of_not_observes cells (by simpa using ho)]

end

end State.Evolves

end Sys2Proof.Machine

/-! PROOF. What a command does, said once for all of them: a reset, a report, a granule of a load, or a chain of moves in
service. -/

namespace Sys2Proof.Machine

open Sys2Proof

namespace State.Evolves

variable {A : Prop}

section
variable {s : State}

/-! ### The management port -/

theorem postDirective (s : State) (p : List Byte) : s.Evolves A (s.postDirective p) := by
  unfold State.postDirective
  split_ifs with ha hroom
  · exact respond s _ _
  · exact respond s _ _
  · split
    · exact respond s _ _
    next f _ =>
      have hlength : (s.ctl.queue ++ [({ frame := f, sendCount := 0 } : Directive)]).length ≤ 4 := by
        simp only [Config.directiveQueueLength, not_le] at hroom
        simpa using hroom
      have hqueue : s.Evolves A (s.modCtl fun c =>
          { c with queue := c.queue ++ [{ frame := f, sendCount := 0 }], nextSeq := c.nextSeq + 1 }) :=
        of s (.ctl s _ rfl (.inr ⟨not_not.mp ha, hlength⟩))
      exact hqueue.trans (respond _ _ _)

theorem beginDrain (ha : s.ctl.station = .active) (count : Nat) : s.Evolves A (s.beginDrain count) :=
  ((enterState s .leaving ⟨rfl, .inr (.inl (by simp [ha])), by simp⟩ (by simp) (by simp)).trans
    (modCtl _ _ rfl le_rfl)).trans (endDrainIfEmpty _)

theorem depart (s : State) (p : List Byte) : s.Evolves A (s.depart p) := by
  unfold State.depart
  split_ifs with ha
  · exact respond s _ _
  · exact respond s _ _
  · exact (beginDrain (not_not.mp ha) _).trans (respond _ _ _)

theorem rejoin (s : State) (sync : Level) : s.Evolves True (s.rejoin sync) := by
  have henter : s.Evolves True (s.reenterListening sync) := by
    unfold State.reenterListening
    dsimp only
    split_ifs
    · exact (enterListening s).trans (timerExpired rfl sync false)
    · exact enterListening s
  unfold State.rejoin
  split_ifs
  · exact respond s _ _
  · exact henter.trans (respond _ _ _)

/-! ### The pacer -/

theorem chargeRelease {q : Fin 12} {d : Descriptor} {rest : List Descriptor} (hq : s.store.queues[q] = d :: rest)
    (hc : 0 < s.meter.credits[q]) : s.Evolves A (s.chargeRelease q d) :=
  ((of s (.release s q d rest hq hc)).trans (send _ (.release d.tag))).trans
    (modCounters _ fun c => { c with releases := countUp 1 c.releases })

theorem reportRelease (s : State) : s.Evolves A s.reportRelease := by
  unfold State.reportRelease
  split_ifs with hl
  · have hcount : s.Evolves A (s.modCtl fun c => { c with drainProgress := satInc 4095 c.drainProgress }) :=
      modCtl s _ rfl le_rfl
    dsimp only
    split_ifs
    · exact hcount.trans (endDrain (.inl (by simp [hl])))
    · exact hcount.trans (endDrainIfEmpty _)
  · exact refl s

theorem pace (s : State) : s.Evolves A s.pace := by
  have hvisit (slot : RingSlot) : s.Evolves A (s.visit slot) := by
    unfold State.visit
    dsimp only
    split
    · exact refl s
    · split
      · exact refl s
      next hq =>
        split
        next hc => exact (chargeRelease hq hc).trans (reportRelease _)
        · exact refl s
  obtain h | ⟨slot, h⟩ := s.pace_cases <;> rw [h]
  exact (hvisit slot).trans (modMeter_rest _ _ rfl rfl)

theorem reachStep (s : State) : s.Evolves A s.reachStep := (passTime s _).trans (modMeter_rest _ _ rfl rfl)

end

end State.Evolves

/-- The event mask value of the conditions holds each at its event bit. -/
theorem State.conditions_getLsbD (s : State) (e : Event) : s.conditions.getLsbD e.bit = s.condition e := by
  refine (BitVec.getLsbD_ofBoolListLE).trans ?_
  cases e <;> rfl

/-! ### Out of service -/

/-- A station whose blocks do not stand at their reset values observes the lines (R11). -/
theorem RestInv.observes_of {s : State} (h : RestInv s) (hb : s.blocksReset → False) : observes s.ctl.station = true := by
  obtain ⟨-, hrest⟩ := h
  by_contra ho
  exact hb (hrest (by simpa using ho))

/-- Out of service no time passes. -/
theorem RestInv.passTime {s : State} (h : RestInv s) (ho : observes s.ctl.station = false) (d : Nat) :
    s.passTime d = s := by
  obtain ⟨-, hrest⟩ := h
  obtain ⟨hsbi, -, -, -, hmeter, -⟩ := hrest ho
  exact s.passTime_stopped d (by rw [hsbi]; rfl) (by rw [hmeter]; rfl)

/-- Out of service no descriptor is held. -/
theorem RestInv.held {s : State} (h : RestInv s) (ho : observes s.ctl.station = false) : s.store.held = [] := by
  obtain ⟨-, hrest⟩ := h
  obtain ⟨-, -, -, hstore, -⟩ := hrest ho
  rw [hstore]
  rfl

/-! ### The effect of a command -/

/-- A reset as it is taken (R12, R164), or the RESET pin held low. -/
inductive State.ResetTo (s : State) : State → Prop where
  | started (cause : ResetCause) (straps : StationNo) : s.ResetTo (s.startLoad cause straps)
  | restarted (straps : StationNo) : s.ResetTo (s.restart straps)
  | held : s.ResetTo { (s.startLoad .pin s.own).modLoader Loader.whileReset with resetLow := true }

/-- What a command or a step leaves: a reset; nothing but what is reported; a granule of a load in flight taken; or, in
service, a chain of moves. `A` says whether the allocation may be written. -/
inductive State.Effect (A : Prop) (s : State) : State → Prop where
  | reset {t : State} (h : s.ResetTo t) : s.Effect A t
  | still (m : Mgmt) (sent : List LinkMessage) (h : s.SparesFlags m) : s.Effect A { s with mgmt := m, sent := sent }
  | loads (g : BitVec 72) (h : s.loader.phase ≠ .idle) (hr : s.resetLow = false) : s.Effect A (s.readGranule (checkGranule g))
  | serves {t : State} (ho : observes s.ctl.station = true) (h : s.Evolves A t) : s.Effect A t

theorem State.Effect.nothing {A : Prop} (s : State) : s.Effect A s := .still s.mgmt s.sent fun _ h _ => h

/-- A state that a command leaves: what it does to a station that rests out of service, the queue of commands kept in any
case, and the event mask kept unless `M` says that the command may write it. -/
def State.Reaches (A M : Prop) (s t : State) : Prop :=
  (RestInv s → s.Effect A t) ∧ t.pending = s.pending ∧ (M ∨ t.mgmt.mask = s.mgmt.mask)

/-- The commands at which a settle starts or completes, or a mark may be made. -/
def writesAlloc : Instr → Prop
  | .epochTimerExpiry .. | .syncHighFault _ | .trueMark .. | .settleStart | .settleComplete | .rejoin .. | .unknownCommand .. =>
      True
  | _ => False

/-- The resets, the granules of a load, and the frames that name the event mask (R12, R16, R167). -/
def writesMask : Instr → Prop
  | .powerOnReset _ | .pinReset | .pinResetRelease _ | .restart .. | .unknownCommand .. | .setEventMask _ | .granuleRead _ => True
  | _ => False

namespace State.Reaches

section
variable {A M : Prop} {s : State}

theorem reset {t : State} (h : s.ResetTo t) (hM : M) : s.Reaches A M t := ⟨fun _ => .reset h, by cases h <;> rfl, .inl hM⟩

theorem still (m : Mgmt) (sent : List LinkMessage) (h : s.SparesFlags m) (hk : M ∨ m.mask = s.mgmt.mask) :
    s.Reaches A M { s with mgmt := m, sent := sent } := ⟨fun _ => .still m sent h, rfl, hk⟩

theorem serves {t : State} (ho : RestInv s → observes s.ctl.station = true) (h : s.Evolves A t) : s.Reaches A M t :=
  ⟨fun hrest => .serves (ho hrest) h, h.keepsFrame.pending, .inr h.mask⟩

theorem nothing (s : State) : s.Reaches A M s := still s.mgmt s.sent (fun _ h _ => h) (.inr rfl)

theorem respond (s : State) (status : Status) (data : List Byte) : s.Reaches A M (s.respond status data) :=
  .still _ s.sent (fun _ h _ => h) (.inr rfl)

theorem ite {c : Prop} [Decidable c] {t u : State} (ht : c → s.Reaches A M t) (hu : s.Reaches A M u) : s.Reaches A M (if c then t else u) := by
  split_ifs with hc
  · exact ht hc
  · exact hu

/-- In service a chain of moves, and out of it nothing. -/
theorem of_observes {c : Prop} [Decidable c] {t : State} (hc : c → RestInv s → observes s.ctl.station = true)
    (h : c → s.Evolves A t) :
    s.Reaches A M (if c then t else s) := ite (fun k => .serves (hc k) (h k)) (nothing s)

theorem answerOffer (s : State) (tag : Tag) (target cls : Byte) (length : BitVec 16) :
    s.Reaches A M (s.answerOffer tag target cls length) := by
  by_cases ho : observes s.ctl.station = true
  · exact .serves (fun _ => ho) (Evolves.answerOffer s tag target cls length)
  · have hrefused : s.answerOffer tag target cls length = s.refuseOffer tag .notServing := by
      have hj : s.judgeOffer tag target cls length = .refused .notServing := by
        cases hst : s.ctl.station <;> simp_all [observes, State.judgeOffer, offerRefusal]
      rw [State.answerOffer, hj]
    rw [hrefused]
    exact .still _ _ (fun _ h _ => h) (.inr rfl)

theorem answerRecall (s : State) (tag : Tag) : s.Reaches A M (s.answerRecall tag) := by
  refine ⟨fun hrest => ?_, (Evolves.answerRecall (A := A) s tag).keepsFrame.pending,
    .inr (Evolves.answerRecall (A := A) s tag).mask⟩
  by_cases ho : observes s.ctl.station = true
  · exact .serves ho (Evolves.answerRecall s tag)
  · rw [s.answerRecall_of_not_held tag (by simp [hrest.held (by simpa using ho)])]
    exact .still s.mgmt _ fun _ h _ => h

/-- A granule of a load leaves the queue of commands. -/
theorem loads {g : BitVec 72} (h : s.loader.phase ≠ .idle) (hr : s.resetLow = false) (hM : M) :
    s.Reaches A M (s.readGranule (checkGranule g)) := by
  refine ⟨fun _ => .loads g h hr, ?_, .inl hM⟩
  have hsection (s : State) (d : List Byte) : (s.sectionRead d).pending = s.pending := by
    unfold State.sectionRead
    split
    · unfold State.headerRead
      dsimp only
      split_ifs <;> rfl
    · unfold State.planRead
      split_ifs
      · rfl
      · dsimp only
        split <;> rfl
    · unfold State.localRead
      split_ifs
      · rfl
      · split <;> rfl
    · rfl
  have htake (s : State) (x : BitVec 64) : (s.takeGranule x).pending = s.pending := by
    unfold State.takeGranule
    dsimp only
    split_ifs
    · exact hsection _ _
    · rfl
  cases checkGranule g with
  | clean x => exact htake s x
  | corrected x => exact htake s.countCorrection x
  | double => rfl

theorem takeReport (s : State) (target : Byte) (cells : BitVec 16) : s.Reaches A M (s.takeReport target cells) := by
  by_cases ho : observes s.ctl.station = true
  · exact .serves (fun _ => ho) (Evolves.takeReport s target cells)
  · rw [State.takeReport_of_not_observes cells (by simpa using ho)]
    exact nothing s

theorem readView (s : State) (p : List Byte) : s.Reaches A M (s.readView p) := by
  unfold State.readView
  dsimp only
  split
  · exact respond s _ _
  · exact ite (fun _ => respond s _ _) (respond s _ _)

theorem clearEvents (s : State) (p : List Byte) : s.Reaches A M (s.clearEvents p) := by
  refine .still _ s.sent (fun e hf hcond => ?_) (.inr rfl)
  have hheld : s.conditions.getLsbD e.bit = true := (s.conditions_getLsbD e).trans hcond
  have hbit : e.bit < 14 := by cases e <;> decide
  simp only [Mgmt.flag] at hf
  simp [Mgmt.flag, clearedFlags, hf, hheld, hbit]

theorem postDirective (s : State) (p : List Byte) : s.Reaches A M (s.postDirective p) := by
  by_cases ha : s.ctl.station = .active
  · exact .serves (fun _ => by simp [ha, observes]) (Evolves.postDirective s p)
  · rw [State.postDirective, if_pos ha]
    exact respond s _ _

theorem depart (s : State) (p : List Byte) : s.Reaches A M (s.depart p) := by
  by_cases ha : s.ctl.station = .active
  · exact .serves (fun _ => by simp [ha, observes]) (Evolves.depart s p)
  · rw [State.depart, if_pos ha]
    exact respond s _ _

theorem rejoin (s : State) (sync : Level) : s.Reaches True M (s.rejoin sync) := by
  by_cases ha : s.ctl.station = .quiet
  · exact .serves (fun _ => by simp [ha, observes]) (Evolves.rejoin s sync)
  · rw [State.rejoin, if_pos ha]
    exact respond s _ _

theorem setEventMask (hM : M) (s : State) (p : List Byte) : s.Reaches A M (s.setEventMask p) :=
  .still _ s.sent (fun _ h _ => h) (.inl hM)
theorem clearCaptures (s : State) (p : List Byte) : s.Reaches A M (s.clearCaptures p) :=
  .still _ s.sent (fun _ h _ => h) (.inr rfl)
theorem clearCounters (s : State) : s.Reaches A M s.clearCounters :=
  .still _ s.sent (fun _ h _ => h) (.inr rfl)

theorem runCommand (straps : StationNo) (sync : Level) (c : Command) (p : List Byte) (s : State) :
    s.Reaches True True (State.runCommand straps sync c p s) := by
  cases c with
  | readView => exact readView s p
  | clearEvents => exact clearEvents s p
  | setEventMask => exact setEventMask trivial s p
  | clearCaptures => exact clearCaptures s p
  | clearCounters => exact clearCounters s
  | postDirective => exact postDirective s p
  | depart => exact depart s p
  | rejoin => exact rejoin s sync
  | restart => exact .reset (.restarted straps) trivial

/-- A frame has the effect of the command it runs. -/
theorem receiveFrame (s : State) (bytes : List Byte) (offByte : Bool) {run : Command → List Byte → State → State}
    (hrun : ∀ c p, s.Reaches A M (run c p s)) : s.Reaches A M (s.receiveFrame bytes offByte run) := by
  obtain h | ⟨status, h⟩ | ⟨c, p, h⟩ := s.receiveFrame_cases bytes offByte run <;> rw [h]
  · exact nothing s
  · exact respond s _ _
  · exact hrun c p

end

end State.Reaches

theorem observes_of_drivesSync {st : StationState} (h : drivesSync st = true) : observes st = true := by
  cases st <;> simp_all [drivesSync, observes]

/-- A driven SYNC, a driven frame, a stuck line, a settle in flight or a running pacer is found in service alone. -/
theorem RestInv.observes_of_work {s : State} (h : RestInv s)
    (hw : s.sbi.syncDrive = .attempting ∨ s.sbi.faults.syncLow = true
      ∨ s.sbi.readback = .driving ∨ s.alloc.settle = .inFlight ∨ s.meter.running = true) :
    observes s.ctl.station = true := by
  refine h.observes_of fun hb => ?_
  obtain ⟨hsbi, -, halloc, -, hmeter, -⟩ := hb
  rw [hsbi, halloc, hmeter] at hw
  simp [Sbi.reset, LineFaults.none, Alloc.reset, Meter.reset] at hw

/-- A position past the mark guard's place in the order is none of Unaligned, Stalled and Suspended once it is at most the
last phase of an epoch. -/
theorem Phase.rank_slot_le (k : StationNo) : (Phase.slot k).rank ≤ 20 := by
  have := k.isLt
  simp only [Phase.rank]
  omega

/-- The guard of a command that the bus brings at an offset of the epoch. -/
theorem rank_of_guard {st : StationState} {p : Phase} {n : Nat} {b : Bool} (hn : n ≤ 20)
    (h : (observes st && decide (p.rank ≤ n) && b) = true) : observes st = true ∧ p.rank ≤ 20 := by
  simp only [Bool.and_eq_true, decide_eq_true_eq] at h
  obtain ⟨⟨ho, hp⟩, -⟩ := h
  exact ⟨ho, hp.trans hn⟩

/-- What every command does (R12 to R176), in any state that rests out of service. -/
theorem exec_reaches {c : Instr} {s t : State} (hexec : exec c s = .next t) :
    s.Reaches (writesAlloc c) (writesMask c) t := by
  cases c <;> obtain rfl := Host.Outcome.next.inj hexec
  case powerOnReset straps => exact .reset (.started .power straps) trivial
  case pinReset => exact .reset .held trivial
  case pinResetRelease straps => exact .ite (fun _ => .reset (.started .pin straps) trivial) (.nothing s)
  case restart straps _ => exact .receiveFrame s _ _ fun _ _ => .reset (.restarted straps) trivial
  case unknownCommand straps sync _ => exact .receiveFrame s _ _ fun c p => .runCommand straps sync c p s
  case readView => exact .receiveFrame s _ _ fun _ p => .readView s p
  case clearEvents => exact .receiveFrame s _ _ fun _ p => .clearEvents s p
  case setEventMask => exact .receiveFrame s _ _ fun _ p => .setEventMask trivial s p
  case clearCaptures => exact .receiveFrame s _ _ fun _ p => .clearCaptures s p
  case clearCounters => exact .receiveFrame s _ _ fun _ _ => .clearCounters s
  case postDirective => exact .receiveFrame s _ _ fun _ p => .postDirective s p
  case depart => exact .receiveFrame s _ _ fun _ p => .depart s p
  case rejoin sync _ => exact .receiveFrame s _ _ fun _ _ => .rejoin s sync
  case granuleRead g =>
    split_ifs with h
    · exact .nothing s
    · obtain ⟨hphase, hreset⟩ := not_or.mp h
      exact .loads hphase (by simpa using hreset) trivial
  case epochTimerExpiry sync first =>
    have hpass : s.Evolves True (s.advanceTo s.epochBitTimes) := State.Evolves.advanceTo s _
    split_ifs with hd
    · exact .serves (fun _ => observes_of_drivesSync hd) (hpass.trans (State.Evolves.timerExpired (s := s.advanceTo _) hd sync first))
    · refine ⟨fun hrest => ?_, hpass.keepsFrame.pending, .inr hpass.mask⟩
      by_cases ho : observes s.ctl.station = true
      · exact .serves ho hpass
      · rw [State.advanceTo, hrest.passTime (by simpa using ho)]
        exact .nothing s
  case syncDriveEnd =>
    refine ⟨fun hrest => ?_, rfl, .inr rfl⟩
    by_cases ho : observes s.ctl.station = true
    · exact .serves ho (State.Evolves.modSbi s _ ⟨rfl, le_rfl, le_max_left _ _, .inl rfl, .inl rfl,
        State.SbiMove.veto_of_eq rfl, State.SbiMove.readback_of_eq rfl rfl, .inl rfl⟩)
    · have hsbi : s.sbi = Sbi.reset := (hrest.2 (by simpa using ho)).1
      have hsame : (s.modSbi fun b => { b with syncDrive := .released }) = s := by
        rw [State.modSbi]
        have : ({ s.sbi with syncDrive := .released } : Sbi) = s.sbi := by rw [hsbi]; rfl
        rw [this]
      rw [hsame]
      exact .nothing s
  case syncHighFault first =>
    exact .of_observes (fun h hrest => hrest.observes_of_work (.inl h)) fun _ => (State.Evolves.syncHigh s).trans
      (State.Evolves.localMark (.inr (.inl (by simp [State.syncHigh]))) first)
  case trueMark time first =>
    exact .of_observes (fun h _ => h) fun _ => (State.Evolves.advanceTo s time).trans (State.Evolves.takeTrueMark _ first)
  case stall =>
    exact .of_observes (fun h _ => (Bool.and_eq_true_iff.mp h).1) fun _ =>
      (State.Evolves.advanceTo s _).trans (State.Evolves.beginStall _)
  case stallEnd time =>
    exact .of_observes (fun h hrest => hrest.observes_of_work (.inr (.inl h))) fun _ =>
      (State.Evolves.advanceTo s time).trans (State.Evolves.endStall _)
  case censusSlotOpen slot =>
    refine .of_observes (fun h _ => (Bool.and_eq_true_iff.mp h).1) fun h => ?_
    obtain ⟨-, hrank⟩ := rank_of_guard (b := true) (Phase.rank_slot_le slot) (by simpa using h)
    exact ((State.Evolves.advanceTo s _).trans
      (State.Evolves.modPhase (s.advanceTo_rank_le _ hrank) (.slot slot) (by simp))).trans (State.Evolves.openSlot _ slot)
  case censusSlotClose slot samples first =>
    refine .of_observes (fun h _ => (Bool.and_eq_true_iff.mp h).1) fun h => ?_
    obtain ⟨-, hrank⟩ := rank_of_guard (b := true) (Phase.rank_slot_le slot) (by simpa using h)
    exact (State.Evolves.advanceTo s _).trans (State.Evolves.closeSlot slot samples first (s.advanceTo_rank_le _ hrank))
  case readbackMismatch bitTime =>
    refine .of_observes (fun h hrest => hrest.observes_of_work (.inr (.inr (.inl ?_)))) fun _ => ?_
    · simp only [Sbi.readsBack, Bool.and_eq_true, beq_iff_eq] at h
      exact h.1.1
    · split
      · split_ifs
        · exact State.Evolves.withdraw s
        · exact State.Evolves.mismatch s _ _
      · exact State.Evolves.mismatch s _ _
      · exact State.Evolves.refl _
  case arbitrationWithdraw bitTime =>
    refine .of_observes (fun h hrest => hrest.observes_of_work (.inr (.inr (.inl ?_)))) fun _ => State.Evolves.withdraw s
    simp only [Sbi.readsBack, Bool.and_eq_true, beq_iff_eq] at h
    exact h.1.1.2.1.1
  case sdatLowClear time =>
    refine .of_observes (fun h _ => h) fun _ => (State.Evolves.advanceTo s time).trans ?_
    unfold State.clearSdatLow
    split_ifs
    · exact State.Evolves.modFaults _ _ .inl
    · exact State.Evolves.refl _
  case directiveWindowOpen =>
    refine .of_observes (fun h _ => ?_) fun h => ?_
    · simp only [Bool.and_eq_true] at h
      exact h.1.1.1
    · rw [Bool.and_assoc] at h
      obtain ⟨-, hrank⟩ := rank_of_guard (by decide) h
      exact ((State.Evolves.advanceTo s _).trans (State.Evolves.modAbandon (w := id) (s.advanceTo_rank_le _ hrank)
        .directiveWindow (by simp))).trans (State.Evolves.contend _)
  case directiveWindowClose samples =>
    refine .of_observes (fun h _ => (rank_of_guard (by decide) h).1) fun h => ?_
    obtain ⟨-, hrank⟩ := rank_of_guard (by decide) h
    exact (State.Evolves.advanceTo s _).trans (State.Evolves.closeWindow samples (s.advanceTo_rank_le _ hrank))
  case vetoWindowOpen =>
    refine .of_observes (fun h _ => (rank_of_guard (by decide) h).1) fun h => ?_
    obtain ⟨-, hrank⟩ := rank_of_guard (by decide) h
    exact (State.Evolves.advanceTo s _).trans (State.Evolves.openVeto (s.advanceTo_rank_le _ hrank))
  case vetoSample level =>
    exact .of_observes (fun h _ => (Bool.and_eq_true_iff.mp h).1) fun _ =>
      (State.Evolves.advanceTo s _).trans (State.Evolves.sampleVeto _ level)
  case vetoLowFault time =>
    refine .of_observes (fun h _ => ?_) fun _ => ((State.Evolves.advanceTo s time).trans
      (State.Evolves.modFaults _ (fun f => { f with vetoLow := true }) .inl)).trans (State.Evolves.recordBus _ _)
    simp only [Bool.and_eq_true] at h
    exact h.1.1
  case vetoLowClear time =>
    exact .of_observes (fun h _ => (Bool.and_eq_true_iff.mp h).1) fun _ => (State.Evolves.advanceTo s time).trans
      (State.Evolves.modFaults _ (fun f => { f with vetoLow := false }) .inl)
  case settleStart =>
    refine .of_observes (fun h _ => (rank_of_guard (by decide) h).1) fun h => ?_
    obtain ⟨-, hrank⟩ := rank_of_guard (by decide) h
    have hphase := Phase.ne_of_rank_le (s.advanceTo_rank_le (bitTimes 710) hrank)
    refine ((State.Evolves.advanceTo s _).trans (State.Evolves.modSbi _ _ ⟨rfl, le_rfl, le_max_left _ _,
      .inr ⟨by simp, .inr (.inl hphase.1)⟩, State.SbiMove.sync_of_eq rfl, .inl rfl, State.SbiMove.readback_of_eq rfl rfl,
      .inl rfl⟩)).trans (State.Evolves.startSettle _)
  case settleComplete =>
    exact .of_observes (fun h hrest => hrest.observes_of_work (.inr (.inr (.inr (.inl h))))) fun _ =>
      State.Evolves.completeSettle s
  case offer tag target cls length => exact .ite (fun _ => .nothing s) (.answerOffer s tag target cls length)
  case occupancy target cells => exact .ite (fun _ => .nothing s) (.takeReport s target cells)
  case linkMessageDiscard bytes =>
    refine .ite (fun _ => .nothing s) ?_
    split
    · exact .nothing s
    · exact .answerOffer s _ _ _ _
    · exact .answerRecall s _
    · exact .takeReport s _ _
  case pacerStep =>
    exact .of_observes (fun h hrest => hrest.observes_of_work (.inr (.inr (.inr (.inr h))))) fun _ =>
      (State.Evolves.reachStep s).trans (State.Evolves.pace _)
  -- The case left is the recall, whose name Mathlib reads as a command.
  next tag => exact .ite (fun _ => .nothing s) (.answerRecall s tag)

theorem exec_effect {c : Instr} {s t : State} (hrest : RestInv s) (hexec : exec c s = .next t) :
    s.Effect (writesAlloc c) t :=
  (exec_reaches hexec).1 hrest

/-- What a step does. -/
theorem step_effect {s t : State} (hrest : RestInv s) (hstep : step s = .next t) :
    ∃ (A : Prop) (rest : List Instr), ({ s with pending := rest } : State).Effect A t := by
  cases hp : s.pending with
  | cons c rest =>
    rw [step_cons s c rest hp] at hstep
    exact ⟨_, rest, exec_effect (s := { s with pending := rest }) hrest hstep⟩
  | nil =>
    rw [step_nil s hp] at hstep
    obtain rfl := Host.Outcome.next.inj hstep
    refine ⟨True, s.pending, ?_⟩
    by_cases ho : observes s.ctl.station = true
    · exact .serves ho (State.Evolves.passTime s 1)
    · rw [hrest.passTime (by simpa using ho)]
      exact .nothing s

end Sys2Proof.Machine

/-! PROOF. The load: granules, sections and the two ways it ends (R2, R3, R13 to R17), in a station at rest. -/

namespace Sys2Proof.Machine

open Sys2Proof

/-! ### A station at rest -/

/-- While a load is in flight every block rests. -/
theorem RestInv.blocksReset {s : State} (h : RestInv s) (hphase : s.loader.phase ≠ .idle) :
    s.ctl.station = .booting ∧ s.blocksReset := by
  obtain ⟨hboot, hrest⟩ := h
  have hb := hboot hphase
  exact ⟨hb, hrest (by rw [hb]; rfl)⟩

theorem Sbi.releaseFor_reset (st : StationState) : Sbi.reset.releaseFor st = Sbi.reset := by
  cases st <;> rfl

theorem Meter.enter_reset {st : StationState} (h : releases st = false) : Meter.reset.enter st = Meter.reset := by
  cases st <;> simp_all [Meter.enter, releases, dropsCredit, Meter.reset]

/-- A station at rest that enters a state which does not release changes the state alone. -/
theorem State.enterState_of_reset {s : State} (h : s.blocksReset) {st : StationState} (hst : releases st = false) :
    s.enterState st = { s with ctl := { s.ctl with station := st } } := by
  obtain ⟨hsbi, -, -, -, hmeter, -⟩ := h
  simp only [State.enterState, hsbi, hmeter, Sbi.releaseFor_reset, Meter.enter_reset hst]

/-- A load that fails leaves the blocks at rest (R15, R17). -/
theorem State.failLoad_eq {s : State} (h : s.blocksReset) (cause : Cause) (position : FailurePosition)
    (event : ConfigEvent) :
    (s.recordConfig event).failLoad cause position = s.loadFailed cause position event := by
  have hr : ((s.recordConfig event).modLoader fun l =>
      { l.stopReading with failurePosition := position }).blocksReset := h
  simp only [State.failLoad]
  rw [State.enterState_of_reset hr rfl]
  rfl

theorem vector_replicate_getElem {α : Type} {n : Nat} (v : Vector α n) (a : α) (h : ∀ i : Fin n, v[i] = a) :
    v = Vector.replicate n a := by
  ext i hi
  simpa using h ⟨i, hi⟩

/-- The state that a load leaves when it succeeds (R16, R61, R96). -/
def State.loaded (s : State) (settings : Settings) : State :=
  { s with
    loader := { s.loader with
      phase := .idle, data := [], stagedPlan := Plan.empty, plan := s.loader.stagedPlan, settings := settings
      cfgSelected := false, cfgCommand := [], port := s.loader.port ++ [.selectHigh] }
    sbi := { s.sbi with running := true }
    alloc := { s.alloc with standing := Record.sized s.loader.stagedPlan }
    ctl := { s.ctl with station := .listening }
    mgmt := { s.mgmt with mask := settings.eventMask, checkMode := settings.checkMode }
    sent := s.sent ++ [.flushed] }

/-- A load that succeeds leaves the blocks at rest but for the plan, the settings and the running timer. -/
theorem State.completeLoad_eq {s : State} (h : s.blocksReset) (settings : Settings) :
    s.completeLoad settings = s.loaded settings := by
  obtain ⟨hsbi, hcensus, halloc, hstore, hmeter, hmonitors, -, -, hqueue, hawaiting, hstreak, hlisten⟩ := h
  have hmask (T : Nat) : (Vector.ofFn fun t : Fin 4 =>
      if decide (t.val < T) then
        { (Vector.replicate 4 Monitor.reset)[t] with state := .masked, highCount := 0, lowCount := 0, marks := 0 }
      else (Vector.replicate 4 Monitor.reset)[t]) = Vector.replicate 4 Monitor.reset :=
    vector_replicate_getElem _ _ fun t => by simp [Monitor.reset]
  have hctl : { s.ctl with station := .listening, listenCount := 0, streak := 0 } =
      ({ s.ctl with station := .listening } : Control) := by
    simp [hlisten, hstreak]
  simp only [State.completeLoad, State.enterListening, State.modLoader, State.modMgmt, State.modAlloc, State.send,
    State.enterState, State.modCtl, State.modCensus, State.modSbi, State.modMonitors, State.loaded, inUse, hsbi, hmeter,
    Sbi.releaseFor_reset, hcensus, hmonitors, hmask, halloc, hctl, Loader.stopReading, Loader.endRead,
    Meter.enter_reset (st := .listening) rfl]
  rfl

/-! ### Granules and sections -/

theorem granuleBytes_length (d : BitVec 64) : (granuleBytes d).length = 8 := by simp [granuleBytes]

/-- The last granule of a section, found clean, starts the section's checks (R13, R14). -/
theorem exec_granuleRead_last {g : BitVec 72} {d : List Byte} {s : State} (hphase : s.loader.phase ≠ .idle)
    (hlast : s.lastGranule g d) :
    exec (.granuleRead g) s = .next ((s.modLoader fun l => { l with data := d }).sectionRead d) := by
  obtain ⟨hreset, hlength, x, hx, rfl⟩ := hlast
  change execGranuleRead g s = _
  have hfull : (s.loader.data ++ granuleBytes x).length = 8 * s.loader.reading.length := by
    rw [List.length_append, granuleBytes_length, hlength]
  simp [execGranuleRead, hphase, hreset, hx, State.readGranule, State.takeGranule, hfull]

/-- What was read of a section is dropped at its end, whatever it was. -/
theorem State.loadFailed_data (s : State) (d : List Byte) (cause : Cause) (position : FailurePosition)
    (event : ConfigEvent) :
    (s.modLoader fun l => { l with data := d }).loadFailed cause position event = s.loadFailed cause position event := rfl

section
variable {s : State} {d : List Byte}

/-- A range failure of a section (R15). -/
theorem State.failRange_eq (h : s.blocksReset) (sec : Section) (offset : Nat) :
    s.failRange sec offset = s.loadFailed .range (.field sec offset) (.range sec offset) :=
  State.failLoad_eq h _ _ _

/-- A digest failure of a section (R7, R10). -/
theorem State.failDigest_eq (h : s.blocksReset) (sec : Section) :
    s.failDigest sec = s.loadFailed .digest (.field sec 0) (.digest sec) := State.failLoad_eq h _ _ _

end

/-- The placement limits as the two inequalities of R1. -/
theorem directoryEntry_placed (d : List Byte) (o n : Nat) :
    (decide (n ≤ (directoryEntry d o).length) && (directoryEntry d o).placed) = false ↔
      ¬ (n ≤ nat16At d (o + 2) ∧ 9 ≤ nat16At d o ∧ nat16At d o + nat16At d (o + 2) ≤ 65536) := by
  rw [← Bool.not_eq_true]
  simp only [Granules.placed, Bool.and_eq_true, decide_eq_true_eq]
  rfl

/-- Settles O7: the checks of `headerRead` are those of R13 in their order, and each failure ends the load of a station at
rest. -/
theorem headerIsCheckedInOrder : Obligations.HeaderIsCheckedInOrder := by
  intro g d s hrest hphase hlast
  have hload : s.loader.phase ≠ .idle := by simp [hphase]
  obtain ⟨-, hblocks⟩ := hrest.blocksReset hload
  have hb : (s.modLoader fun l => { l with data := d }).blocksReset := hblocks
  rw [exec_granuleRead_last hload hlast]
  have hsection : (s.modLoader fun l => { l with data := d }).sectionRead d =
      (s.modLoader fun l => { l with data := d }).headerRead d := by
    simp [State.sectionRead, hphase]
  have hidentity : imageIdentity = 0x73161A0C := rfl
  simp only [hsection, hidentity, State.headerRead, State.failRange_eq hb, State.failLoad_eq hb,
    State.loadFailed_data, State.own, State.modLoader_loader, localEntryOffset]
  refine ⟨fun hid => ?_, fun hid hentry => ?_, fun hid hlen hplaced hnone => ?_, fun hid hlen hplaced hsome hentry => ?_,
    fun hid hlen hplaced hlocal hlplaced => ?_⟩
  · rw [if_pos hid]
  · rw [if_neg (not_not.mpr hid), if_pos ((directoryEntry_placed d 4 3).mpr hentry)]
  · rw [if_neg (not_not.mpr hid), if_neg (mt (directoryEntry_placed d 4 3).mp (not_not.mpr ⟨hlen, hplaced⟩))]
    exact congrArg _ (if_pos hnone)
  · rw [if_neg (not_not.mpr hid), if_neg (mt (directoryEntry_placed d 4 3).mp (not_not.mpr ⟨hlen, hplaced⟩))]
    exact congrArg _ ((if_neg hsome).trans (if_pos ((directoryEntry_placed d _ 24).mpr hentry)))
  · have hsome : nat16At d (8 + 4 * s.own.toNat + 2) ≠ 0 := (Nat.lt_of_lt_of_le (by decide : 0 < 24) hlocal).ne'
    rw [if_neg (not_not.mpr hid), if_neg (mt (directoryEntry_placed d 4 3).mp (not_not.mpr ⟨hlen, hplaced⟩)),
      State.beginRead_eq]
    exact congrArg _ ((if_neg hsome).trans
      (if_neg (mt (directoryEntry_placed d _ 24).mp (not_not.mpr ⟨hlocal, hlplaced⟩))))

/-- Settles O8: the digest is judged first, the fields next, and the section that passes both is staged. -/
theorem planSectionIsVerifiedThenValidated : Obligations.PlanSectionIsVerifiedThenValidated := by
  intro g d s hrest hphase hlast
  have hload : s.loader.phase ≠ .idle := by simp [hphase]
  obtain ⟨-, hblocks⟩ := hrest.blocksReset hload
  have hb : (s.modLoader fun l => { l with data := d }).blocksReset := hblocks
  have hv : ((s.modLoader fun l => { l with data := d }).modLoader fun l =>
      { l with planDigest := word32At d (d.length - 4) }).blocksReset := hblocks
  rw [exec_granuleRead_last hload hlast]
  have hsection : (s.modLoader fun l => { l with data := d }).sectionRead d =
      (s.modLoader fun l => { l with data := d }).planRead d := by
    simp [State.sectionRead, hphase]
  simp only [hsection, State.planRead, sectionDigest, storedDigest, State.failDigest_eq hb, State.failRange_eq hv]
  refine ⟨fun hdigest => ?_, fun o hdigest hfirst => ?_, fun hdigest hnone => ?_⟩
  · rw [if_pos hdigest]
    rfl
  · rw [if_neg (not_not.mpr hdigest), hfirst]
    rfl
  · rw [if_neg (not_not.mpr hdigest), hnone]
    simp only [State.beginRead_eq]
    rfl

theorem nat16_zero : nat16 0 = [0, 0] := by decide

/-- The digest of the record that a load leaves: every grant 0, percents of 100, none evicted (R61, R72). -/
theorem Record.sized_eq (plan : Plan) :
    Record.sized plan = { Record.reset with
      grants := List.replicate plan.places.length 0
      digest := digestOf (List.replicate (2 * plan.places.length) 0 ++ [100, 100, 100, 100, 0, 0]) } := by
  have hgrants : (plan.places.map fun _ => (0 : Nat)) = List.replicate plan.places.length 0 := by
    rw [List.map_const']
  have hbytes (n : Nat) : (List.replicate n 0).flatMap nat16 = List.replicate (2 * n) (0 : Byte) := by
    induction n with
    | zero => rfl
    | succ n ih =>
      rw [List.replicate_succ, List.flatMap_cons, ih, nat16_zero, Nat.mul_succ]
      simp [List.replicate_succ]
  have hadmin : Admin.reset.bytes = [100, 100, 100, 100, 0, 0] := by decide
  simp only [Record.sized, allocationDigest, hgrants, hbytes, hadmin]

/-- Settles O10: the digest, then the fields, then the completion of the load. -/
theorem localSectionEndsTheLoad : Obligations.LocalSectionEndsTheLoad := by
  intro g d s hrest hphase hlast
  have hload : s.loader.phase ≠ .idle := by simp [hphase]
  obtain ⟨-, hblocks⟩ := hrest.blocksReset hload
  have hb : (s.modLoader fun l => { l with data := d }).blocksReset := hblocks
  rw [exec_granuleRead_last hload hlast]
  have hsection : (s.modLoader fun l => { l with data := d }).sectionRead d =
      (s.modLoader fun l => { l with data := d }).localRead d := by
    simp [State.sectionRead, hphase]
  simp only [hsection, State.localRead, sectionDigest, storedDigest, State.failDigest_eq hb, State.failRange_eq hb, State.completeLoad_eq hb]
  refine ⟨fun hdigest => ?_, fun o hdigest hfirst => ?_, fun hdigest hnone => ?_⟩
  · rw [if_pos hdigest]
    rfl
  · have hfirst' : firstFailure (localChecks d (s.modLoader fun l => { l with data := d }).own
        (s.modLoader fun l => { l with data := d }).loader.stagedPlan.targets) = some o := hfirst
    rw [if_neg (not_not.mpr hdigest), hfirst']
    rfl
  · have hnone' : firstFailure (localChecks d (s.modLoader fun l => { l with data := d }).own
        (s.modLoader fun l => { l with data := d }).loader.stagedPlan.targets) = none := hnone
    rw [if_neg (not_not.mpr hdigest), hnone']
    simp only [State.loaded, Record.sized_eq]
    rfl

end Sys2Proof.Machine

/-! PROOF. The check of a granule (R176): the syndrome and the overall parity add up under exclusive or, and are 0 for a
granule stored with its check byte; so what a granule is found to be depends on the bits inverted in it alone. -/

namespace Sys2Proof.Machine

open Sys2Proof

/-! ### Bits in a row -/

theorem bitsOf_append {v w : Nat} (a : BitVec v) (b : BitVec w) : bitsOf (a ++ b) = bitsOf a ++ bitsOf b := by
  apply List.ext_getElem
  · simp [bitsOf]
  · intro i hi _
    have hlen : i < v + w := by simpa [bitsOf] using hi
    simp only [bitsOf, List.getElem_map, List.getElem_range, List.getElem_append, List.length_map, List.length_range,
      BitVec.getMsbD_append]
    by_cases h : i < v
    · simp [h, Nat.not_le.mpr h]
    · simp [h, Nat.not_lt.mp h]

/-- The bits of a row as one number, the first the most significant. -/
theorem ofBits_append {w : Nat} (bits : List Bool) (b : Bool) :
    ofBits w (bits ++ [b]) = (ofBits w bits <<< 1) ||| (BitVec.ofBool b).setWidth w := by
  simp [ofBits]

theorem ofBits_getLsbD {w : Nat} (bits : List Bool) (i : Nat) (hi : i < w) :
    (ofBits w bits).getLsbD i = bits.reverse.getD i false := by
  induction bits using List.reverseRecOn generalizing i with
  | nil => simp [ofBits]
  | append_singleton bits b ih =>
    rw [ofBits_append]
    cases i with
    | zero => simp [hi]
    | succ i =>
      have hb : (BitVec.setWidth w (BitVec.ofBool b)).getLsbD (i + 1) = false := by
        cases b <;> simp
      simp only [BitVec.getLsbD_or, BitVec.getLsbD_shiftLeft, hi, hb, decide_true, Bool.true_and, Bool.or_false,
        List.reverse_append, List.reverse_cons, List.reverse_nil, List.nil_append, List.singleton_append,
        List.getD_cons_succ, Nat.add_sub_cancel]
      rw [ih i (by omega)]
      simp

/-! ### Parity -/

theorem parity_eq_foldr (l : List Bool) : parity l = l.foldr (· ^^ ·) false := by
  rw [parity]
  have : Std.Commutative (α := Bool) (· ^^ ·) := ⟨Bool.xor_comm⟩
  exact List.foldl_eq_foldr

theorem parity_append (l m : List Bool) : parity (l ++ m) = (parity l ^^ parity m) := by
  induction l with
  | nil => simp [parity_eq_foldr]
  | cons a l ih =>
    rw [parity_eq_foldr] at ih ⊢
    rw [List.cons_append, List.foldr_cons, ih, parity_eq_foldr (a :: l), List.foldr_cons, parity_eq_foldr l, Bool.xor_assoc]

/-- The parity of a row of sums is the sum of the parities. -/
theorem parity_map_xor {α : Type} (l : List α) (f g : α → Bool) :
    parity (l.map fun a => f a ^^ g a) = (parity (l.map f) ^^ parity (l.map g)) := by
  induction l with
  | nil => rfl
  | cons a l ih =>
    simp only [parity_eq_foldr, List.map_cons, List.foldr_cons] at ih ⊢
    rw [ih]
    cases f a <;> cases g a <;> simp

theorem parity_bitsOf_xor {w : Nat} (a b : BitVec w) : parity (bitsOf (a ^^^ b)) = (parity (bitsOf a) ^^ parity (bitsOf b)) := by
  rw [bitsOf, bitsOf, bitsOf, ← parity_map_xor]
  congr 1
  exact List.map_congr_left fun i _ => by simp

/-! ### The syndrome -/

/-- The code position of data bit `n`. -/
def dataPosition (n : Nat) : Nat := dataPositions.getD n 0

theorem dataPositions_eq : dataPositions = (List.range 64).map dataPosition := by decide +kernel

/-- A check bit as a parity over the 64 data bits. -/
theorem dataParity_eq (d : BitVec 64) (i : Nat) :
    dataParity d i = parity ((List.range 64).map fun n => d.getMsbD n && (dataPosition n).testBit i) := by
  rw [dataParity, dataPositions_eq, bitsOf, List.zip_map', List.map_map]
  rfl

theorem dataParity_xor (a b : BitVec 64) (i : Nat) : dataParity (a ^^^ b) i = (dataParity a i ^^ dataParity b i) := by
  simp only [dataParity_eq, ← parity_map_xor]
  congr 1
  refine List.map_congr_left fun n _ => ?_
  rw [BitVec.getMsbD_xor]
  cases a.getMsbD n <;> cases b.getMsbD n <;> simp

/-- Bit `i` of the syndrome: the recomputed check bit against the stored one (R176). -/
def syndromeBit (g : BitVec 72) (i : Nat) : Bool := dataParity (granuleData g) i ^^ g.getLsbD i

theorem syndrome_eq (g : BitVec 72) :
    syndrome g = ((List.range 7).map fun i => if syndromeBit g i then 2 ^ i else 0).sum := rfl

theorem granuleData_xor (a b : BitVec 72) : granuleData (a ^^^ b) = granuleData a ^^^ granuleData b := by
  simp [granuleData, BitVec.extractLsb'_xor]

theorem syndromeBit_xor (a b : BitVec 72) (i : Nat) : syndromeBit (a ^^^ b) i = (syndromeBit a i ^^ syndromeBit b i) := by
  simp only [syndromeBit, granuleData_xor, dataParity_xor, BitVec.getLsbD_xor]
  cases dataParity (granuleData a) i <;> cases dataParity (granuleData b) i <;> simp

/-- A syndrome of 0 has no bit set. -/
theorem syndromeBit_of_syndrome_zero {g : BitVec 72} (h : syndrome g = 0) {i : Nat} (hi : i < 7) : syndromeBit g i = false := by
  have hterm : (if syndromeBit g i then 2 ^ i else 0) = 0 :=
    List.sum_eq_zero_iff.mp h _ (List.mem_map.mpr ⟨i, List.mem_range.mpr hi, rfl⟩)
  by_contra hb
  rw [if_pos (by simpa using hb)] at hterm
  exact absurd hterm (by positivity)

/-- Granules that differ by one of syndrome 0 have one syndrome. -/
theorem syndrome_eq_of_xor {a b : BitVec 72} (h : ∀ i < 7, syndromeBit (a ^^^ b) i = false) : syndrome a = syndrome b := by
  have hbit : ∀ i ∈ List.range 7, (if syndromeBit a i then 2 ^ i else 0) = if syndromeBit b i then 2 ^ i else 0 := by
    intro i hi
    have hx := h i (List.mem_range.mp hi)
    rw [syndromeBit_xor, bne_eq_false_iff_eq] at hx
    rw [hx]
  exact congrArg List.sum (List.map_congr_left hbit)

/-! ### A granule as it is stored -/

/-- The data bytes of a granule come before its check byte. -/
theorem granuleData_append (d : BitVec 64) (c : BitVec 8) : granuleData (d ++ c) = d := by
  unfold granuleData
  ext i hi
  rw [BitVec.getElem_extractLsb', BitVec.getLsbD_append, if_neg (by omega), Nat.add_sub_cancel_left, BitVec.getLsbD_eq_getElem hi]

theorem granuleData_encodeGranule (d : BitVec 64) : granuleData (encodeGranule d) = d := granuleData_append d _

theorem syndromeBit_encodeGranule (d : BitVec 64) {i : Nat} (hi : i < 7) : syndromeBit (encodeGranule d) i = false := by
  rw [syndromeBit, granuleData_encodeGranule]
  have hlow : (encodeGranule d).getLsbD i = dataParity d i := by
    simp only [encodeGranule, BitVec.getLsbD_append, hi, if_true, show i < 1 + 7 by omega]
    rw [ofBits_getLsbD _ _ hi]
    simp [List.getD_eq_getElem?_getD, hi]
  simp [hlow]

theorem parity_encodeGranule (d : BitVec 64) : parity (bitsOf (encodeGranule d)) = false := by
  simp only [encodeGranule, bitsOf_append, parity_append]
  have hone (b : Bool) : parity (bitsOf (BitVec.ofBool b)) = b := by cases b <;> decide
  rw [hone]
  cases parity (bitsOf d) <;> simp

/-! ### What inverted bits do -/

/-- What a granule is found to be, its data added to other data. -/
def GranuleOutcome.onto (d : BitVec 64) : GranuleOutcome → GranuleOutcome
  | .clean x => .clean (d ^^^ x)
  | .corrected x => .corrected (d ^^^ x)
  | .double => .double

/-- A stored granule with bits inverted is found as the inverted bits alone would be, its data added. -/
theorem checkGranule_encodeGranule_xor (d : BitVec 64) (e : BitVec 72) :
    checkGranule (encodeGranule d ^^^ e) = (checkGranule e).onto d := by
  have hsyndrome : syndrome (encodeGranule d ^^^ e) = syndrome e :=
    syndrome_eq_of_xor fun i hi => by
      rw [BitVec.xor_assoc, BitVec.xor_self, BitVec.xor_zero, syndromeBit_encodeGranule d hi]
  have hparity : parity (bitsOf (encodeGranule d ^^^ e)) = parity (bitsOf e) := by
    rw [parity_bitsOf_xor, parity_encodeGranule, Bool.false_xor]
  simp only [checkGranule, hsyndrome, hparity, granuleData_xor, granuleData_encodeGranule]
  split_ifs <;> simp [GranuleOutcome.onto, BitVec.xor_assoc]

/-- A row with one bit set at most has the parity of that bit. -/
theorem parity_map_single {l : List Nat} (hl : l.Nodup) (a : Nat) (p : Nat → Bool) :
    parity (l.map fun n => decide (n = a) && p n) = (decide (a ∈ l) && p a) := by
  induction l with
  | nil => rfl
  | cons b l ih =>
    obtain ⟨hb, hl⟩ := List.nodup_cons.mp hl
    have hcons : parity ((b :: l).map fun n => decide (n = a) && p n) =
        ((decide (b = a) && p b) ^^ parity (l.map fun n => decide (n = a) && p n)) := by
      simp only [parity_eq_foldr, List.map_cons, List.foldr_cons]
    rw [hcons, ih hl]
    by_cases hba : b = a
    · subst hba
      simp [hb]
    · simp [hba, Ne.symm hba]

/-- A number with one bit set. -/
theorem getLsbD_one_shiftLeft {w i k : Nat} (hk : k < w) : ((1 : BitVec w) <<< i).getLsbD k = decide (k = i) := by
  rw [BitVec.getLsbD_shiftLeft, show (1 : BitVec w) = 1#w from rfl, BitVec.getLsbD_one]
  by_cases h : k = i
  · simp [h, show 0 < w by omega, show i < w by omega]
  · by_cases hlt : k < i
    · simp [h, hlt]
    · simp [h, hlt, show ¬ k - i = 0 by omega]

/-- The same, as the bits are sent. -/
theorem getMsbD_one_shiftLeft {w i n : Nat} (hn : n < w) :
    ((1 : BitVec w) <<< i).getMsbD n = decide (w - 1 - n = i) := by
  rw [BitVec.getMsbD_eq_getLsbD, getLsbD_one_shiftLeft (by omega), decide_eq_true hn, Bool.true_and]

theorem parity_one (i : Fin 72) : parity (bitsOf ((1 : BitVec 72) <<< i.val)) = true := by
  have hrow : bitsOf ((1 : BitVec 72) <<< i.val) = (List.range 72).map fun n => decide (n = 71 - i.val) && true :=
    List.map_congr_left fun n hn => by
      have hn := List.mem_range.mp hn
      have hi := i.isLt
      rw [getMsbD_one_shiftLeft hn, Bool.and_true, decide_eq_decide]
      omega
  rw [hrow, parity_map_single List.nodup_range _ fun _ => true, Bool.and_true, decide_eq_true_iff, List.mem_range]
  omega

/-- The data of a granule with one bit set: none for a bit of the check byte. -/
theorem granuleData_one (i : Fin 72) :
    granuleData ((1 : BitVec 72) <<< i.val) = if i.val < 8 then 0 else (1 : BitVec 64) <<< (i.val - 8) := by
  have hi := i.isLt
  unfold granuleData
  ext k hk
  rw [BitVec.getElem_extractLsb', getLsbD_one_shiftLeft (by omega)]
  split_ifs with h
  · simp
    omega
  · rw [← BitVec.getLsbD_eq_getElem, getLsbD_one_shiftLeft hk, decide_eq_decide]
    omega

/-- The code position of a bit of a granule: that of its data bit, or the power of two of its check bit; 0 for the overall
parity (R176). -/
def granulePosition (i : Nat) : Nat := if i < 7 then 2 ^ i else if i < 8 then 0 else dataPosition (71 - i)

theorem syndromeBit_one (i : Fin 72) {k : Nat} (hk : k < 7) :
    syndromeBit ((1 : BitVec 72) <<< i.val) k = (granulePosition i.val).testBit k := by
  have hi := i.isLt
  have hcheck : ((1 : BitVec 72) <<< i.val).getLsbD k = decide (k = i.val) :=
    getLsbD_one_shiftLeft (by omega)
  have hdata : dataParity (granuleData ((1 : BitVec 72) <<< i.val)) k =
      (decide (8 ≤ i.val) && (dataPosition (71 - i.val)).testBit k) := by
    have hrow : ((List.range 64).map fun n =>
        (granuleData ((1 : BitVec 72) <<< i.val)).getMsbD n && (dataPosition n).testBit k) =
          (List.range 64).map fun n => decide (n = 71 - i.val) && (dataPosition n).testBit k := by
      refine List.map_congr_left fun n hn => ?_
      have hn := List.mem_range.mp hn
      rw [granuleData_one]
      congr 1
      split_ifs with h
      · simp
        omega
      · rw [getMsbD_one_shiftLeft hn, decide_eq_decide]
        omega
    rw [dataParity_eq, hrow, parity_map_single List.nodup_range _ fun n => (dataPosition n).testBit k]
    congr 1
    simp only [List.mem_range, decide_eq_decide]
    omega
  rw [syndromeBit, hcheck, hdata]
  unfold granulePosition
  split_ifs with h7 h8
  · simp [Nat.testBit_two_pow, show ¬ 8 ≤ i.val by omega, eq_comm]
  · simp [show ¬ 8 ≤ i.val by omega, show ¬ k = i.val by omega]
  · simp [show 8 ≤ i.val by omega, show ¬ k = i.val by omega]

/-- The syndrome of one inverted bit is its code position (R176). -/
theorem syndrome_one (i : Fin 72) : syndrome ((1 : BitVec 72) <<< i.val) = granulePosition i.val := by
  have hsum : ∀ i : Fin 72, ((List.range 7).map fun k => if (granulePosition i.val).testBit k then 2 ^ k else 0).sum =
      granulePosition i.val := by decide +kernel
  rw [syndrome_eq, ← hsum i]
  exact congrArg List.sum (List.map_congr_left fun k hk => by rw [syndromeBit_one i (List.mem_range.mp hk)])

/-- One bit inverted is corrected, wherever it stands. -/
theorem checkGranule_one (i : Fin 72) : checkGranule ((1 : BitVec 72) <<< i.val) = .corrected 0 := by
  have hplace : ∀ i : Fin 72, if i.val < 8 then granulePosition i.val = 0 ∨ isCheckPosition (granulePosition i.val) = true
      else granulePosition i.val ≠ 0 ∧ isCheckPosition (granulePosition i.val) = false ∧ granulePosition i.val < 72
        ∧ 63 - dataPositions.idxOf (granulePosition i.val) = i.val - 8 := by decide +kernel
  have h := hplace i
  simp only [checkGranule, syndrome_one, parity_one, granuleData_one]
  by_cases hi : i.val < 8
  · rw [if_pos hi] at h
    obtain h | h := h
    · simp [hi, h]
    · simp [hi, h]
  · rw [if_neg hi] at h
    obtain ⟨hzero, hcheck, hlt, hindex⟩ := h
    simp [hi, hzero, hcheck, Nat.not_le.mpr hlt, hindex]

/-- Each bit has a syndrome of its own. -/
theorem syndrome_one_injective (i j : Fin 72)
    (h : syndrome ((1 : BitVec 72) <<< i.val) = syndrome ((1 : BitVec 72) <<< j.val)) : i = j := by
  have hnodup : ((List.finRange 72).map fun i : Fin 72 => granulePosition i.val).Nodup := by decide +kernel
  rw [syndrome_one, syndrome_one] at h
  exact List.inj_on_of_nodup_map hnodup (List.mem_finRange i) (List.mem_finRange j) h

/-- Two bits inverted are found as such, and nothing is corrected. -/
theorem checkGranule_two {i j : Fin 72} (hij : i ≠ j) :
    checkGranule ((1 : BitVec 72) <<< i.val ^^^ (1 : BitVec 72) <<< j.val) = .double := by
  have hparity : parity (bitsOf ((1 : BitVec 72) <<< i.val ^^^ (1 : BitVec 72) <<< j.val)) = false := by
    rw [parity_bitsOf_xor, parity_one, parity_one]
    rfl
  have hsyndrome : syndrome ((1 : BitVec 72) <<< i.val ^^^ (1 : BitVec 72) <<< j.val) ≠ 0 := fun h =>
    hij (syndrome_one_injective i j (syndrome_eq_of_xor fun _ hk => syndromeBit_of_syndrome_zero h hk))
  rw [checkGranule, if_neg hsyndrome, hparity]
  rfl

/-- A granule as it is stored is clean. -/
theorem checkGranule_encodeGranule (d : BitVec 64) : checkGranule (encodeGranule d) = .clean d := by
  have hzero : checkGranule 0 = .clean 0 := Tests.test_zero_granule.1
  have h := checkGranule_encodeGranule_xor d 0
  rw [hzero] at h
  simpa [GranuleOutcome.onto] using h

/-! ### The two statements -/

/-- A granule of a load in flight is taken as it is found (R3). -/
theorem exec_granuleRead {s : State} (g : BitVec 72) (hphase : s.loader.phase ≠ .idle) (hreset : s.resetLow = false) :
    exec (.granuleRead g) s = .next (s.readGranule (checkGranule g)) := by
  change execGranuleRead g s = _
  simp [execGranuleRead, hphase, hreset]

/-- Settles O5: the outcome is clean as stored, and corrected to the same data with one bit inverted; a correction changes
nothing that the taking of the data looks at. -/
theorem oneWrongBitOfAGranuleIsCorrected : Obligations.OneWrongBitOfAGranuleIsCorrected := by
  refine ⟨fun d s hphase hreset hmore => ?_, fun d i s hphase hreset => ?_⟩
  · have hlength : (s.loader.data ++ granuleBytes d).length ≠ 8 * s.loader.reading.length := by
      rwa [List.length_append, granuleBytes_length]
    rw [exec_granuleRead _ hphase hreset, checkGranule_encodeGranule]
    exact congrArg _ (if_neg hlength)
  · have hcorrected : checkGranule (encodeGranule d ^^^ ((1 : BitVec 72) <<< i.val)) = .corrected d := by
      rw [checkGranule_encodeGranule_xor, checkGranule_one]
      simp [GranuleOutcome.onto]
    have hclean := exec_granuleRead (s := s.countCorrection) (encodeGranule d) hphase hreset
    rw [checkGranule_encodeGranule] at hclean
    rw [exec_granuleRead _ hphase hreset, hcorrected]
    exact hclean.symm

/-- Settles O6: two inverted bits leave the overall parity even and the syndrome other than 0. -/
theorem twoWrongBitsOfAGranuleEndTheLoad : Obligations.TwoWrongBitsOfAGranuleEndTheLoad := by
  intro d i j s hij hrest hphase hreset
  have hdouble : checkGranule (encodeGranule d ^^^ ((1 : BitVec 72) <<< i.val) ^^^ ((1 : BitVec 72) <<< j.val)) = .double := by
    rw [BitVec.xor_assoc, checkGranule_encodeGranule_xor, checkGranule_two hij]
    rfl
  obtain ⟨-, hblocks⟩ := hrest.blocksReset hphase
  rw [exec_granuleRead _ hphase hreset, hdouble, State.readGranule, State.failLoad_eq hblocks]

end Sys2Proof.Machine

/-! PROOF. The field checks of the sections (R4 to R9, R14, R15): the checks stand in the order of their offsets, so the
first that fails is the one of the lowest offset; and what the checks let pass is in range. -/

namespace Sys2Proof.Machine

open Sys2Proof

/-! ### Fields -/

theorem nat8At_lt (d : List Byte) (o : Nat) : nat8At d o < 256 := (byteAt d o).isLt

theorem nat16At_eq (d : List Byte) (o : Nat) : nat16At d o = 256 * nat8At d o + nat8At d (o + 1) := by
  simp only [nat16At, word16At, nat8At, BitVec.toNat_append]
  rw [← Nat.shiftLeft_add_eq_or_of_lt (byteAt d (o + 1)).isLt, Nat.shiftLeft_eq]
  omega

theorem nat16At_lt (d : List Byte) (o : Nat) : nat16At d o < 65536 := (word16At d o).isLt

/-! ### The first failure of a row of checks -/

/-- A check at this offset fails. -/
def FailsAt (checks : List FieldCheck) (o : Nat) : Prop := (o, false) ∈ checks

theorem failsAt_append (a b : List FieldCheck) (o : Nat) : FailsAt (a ++ b) o ↔ FailsAt a o ∨ FailsAt b o := List.mem_append

theorem firstFailure_cons (c : FieldCheck) (cs : List FieldCheck) :
    firstFailure (c :: cs) = if c.2 then firstFailure cs else some c.1 := by
  obtain ⟨o, b⟩ := c
  cases b <;> rfl

theorem firstFailure_append (a b : List FieldCheck) : firstFailure (a ++ b) = (firstFailure a).or (firstFailure b) := by
  induction a with
  | nil => rfl
  | cons c a ih =>
    rw [List.cons_append, firstFailure_cons, firstFailure_cons, ih]
    split_ifs <;> rfl

theorem firstFailure_eq_none_iff (checks : List FieldCheck) : firstFailure checks = none ↔ ∀ o, ¬ FailsAt checks o := by
  simp [firstFailure, FailsAt]

theorem failsAt_of_firstFailure {checks : List FieldCheck} {o : Nat} (h : firstFailure checks = some o) :
    FailsAt checks o := by
  simp only [firstFailure, Option.map_eq_some_iff] at h
  obtain ⟨⟨o', b⟩, hfind, rfl⟩ := h
  have hfail := List.find?_some hfind
  have hmem := List.mem_of_find?_eq_some hfind
  simp only [Bool.not_eq_true'] at hfail
  exact hfail ▸ hmem

/-- In a row whose offsets never fall, the first failure is that of the lowest offset. -/
theorem firstFailure_eq_some_iff {checks : List FieldCheck} (h : checks.Pairwise fun a b => a.1 ≤ b.1) (o : Nat) :
    firstFailure checks = some o ↔ FailsAt checks o ∧ ∀ o' < o, ¬ FailsAt checks o' := by
  induction checks with
  | nil => simp [firstFailure, FailsAt]
  | cons c cs ih =>
    obtain ⟨hc, hcs⟩ := List.pairwise_cons.mp h
    obtain ⟨p, b⟩ := c
    rw [firstFailure_cons]
    cases b with
    | true =>
      have hfails (o : Nat) : FailsAt ((p, true) :: cs) o ↔ FailsAt cs o := by simp [FailsAt]
      simp only [if_true, ih hcs, hfails]
    | false =>
      simp only [Bool.false_eq_true, if_false, Option.some.injEq]
      have hlow : ∀ o, FailsAt ((p, false) :: cs) o → p ≤ o := by
        intro o ho
        obtain ho | ho := List.mem_cons.mp ho
        · exact (congrArg Prod.fst ho).ge
        · exact hc _ ho
      constructor
      · rintro rfl
        exact ⟨List.mem_cons_self, fun o' ho' hf => absurd (hlow o' hf) (Nat.not_le.mpr ho')⟩
      · rintro ⟨hf, hmin⟩
        exact le_antisymm (hlow o hf) (Nat.le_of_not_lt fun hlt => hmin p hlt List.mem_cons_self)

/-- The same for two rows, the second at higher offsets, whose order matters once the first passes. -/
theorem firstFailure_append_eq_some_iff {a b : List FieldCheck} (ha : a.Pairwise fun a b => a.1 ≤ b.1)
    (hab : ∀ x ∈ a, ∀ y ∈ b, x.1 < y.1) (hb : firstFailure a = none → b.Pairwise fun a b => a.1 ≤ b.1) (o : Nat) :
    firstFailure (a ++ b) = some o ↔ FailsAt (a ++ b) o ∧ ∀ o' < o, ¬ FailsAt (a ++ b) o' := by
  rw [firstFailure_append]
  simp only [failsAt_append]
  cases hf : firstFailure a with
  | none =>
    have hnone := (firstFailure_eq_none_iff a).mp hf
    simp only [Option.none_or, hnone, false_or, firstFailure_eq_some_iff (hb hf)]
  | some p =>
    obtain ⟨hp, hmin⟩ := (firstFailure_eq_some_iff ha p).mp hf
    have hlow : ∀ o, FailsAt b o → p < o := fun o ho => hab _ hp _ ho
    simp only [Option.some_or, Option.some.injEq]
    constructor
    · rintro rfl
      refine ⟨.inl hp, fun o' ho' => not_or.mpr ⟨hmin o' ho', fun hb' => ?_⟩⟩
      have := hlow o' hb'
      omega
    · rintro ⟨ho, hno⟩
      have hle : o ≤ p := Nat.le_of_not_lt fun hlt => (hno p hlt) (.inl hp)
      refine le_antisymm (Nat.le_of_not_lt fun hlt => ?_) hle
      obtain ho | ho := ho
      · exact hmin o hlt ho
      · have := hlow o ho
        omega

/-- Rows of one check at most, one for each number: the first failure is that of the lowest number. -/
theorem firstFailure_flatMap_range (f : Nat → List FieldCheck) (n o : Nat) :
    firstFailure ((List.range n).flatMap f) = some o ↔
      ∃ t < n, firstFailure (f t) = some o ∧ ∀ t' < t, firstFailure (f t') = none := by
  induction n with
  | zero => simp [firstFailure]
  | succ n ih =>
    have hnone : firstFailure ((List.range n).flatMap f) = none ↔ ∀ t < n, firstFailure (f t) = none := by
      simp only [firstFailure_eq_none_iff, FailsAt, List.mem_flatMap, List.mem_range, not_exists, not_and]
      exact ⟨fun h t ht o => h o t ht, fun h o t ht => h t ht o⟩
    rw [List.range_succ, List.flatMap_append, firstFailure_append]
    simp only [List.flatMap_cons, List.flatMap_nil, List.append_nil]
    cases hf : firstFailure ((List.range n).flatMap f) with
    | none =>
      have hall := hnone.mp hf
      simp only [Option.none_or]
      constructor
      · exact fun h => ⟨n, Nat.lt_succ_self n, h, hall⟩
      · rintro ⟨t, ht, hft, -⟩
        obtain ht | rfl := Nat.lt_succ_iff_lt_or_eq.mp ht
        · rw [hall t ht] at hft
          exact absurd hft (by simp)
        · exact hft
    | some p =>
      have hsome : some p = some o ↔ _ := hf ▸ ih
      simp only [Option.some_or, hsome]
      constructor
      · rintro ⟨t, ht, hrest⟩
        exact ⟨t, ht.trans (Nat.lt_succ_self n), hrest⟩
      · rintro ⟨t, ht, hft, hbefore⟩
        obtain ht | rfl := Nat.lt_succ_iff_lt_or_eq.mp ht
        · exact ⟨t, ht, hft, hbefore⟩
        · rw [hnone.mpr hbefore] at hf
          exact absurd hf (by simp)

/-! ### The plan section -/

section
variable (d : List Byte)

/-- The checks of the plan section, the tier-end rule aside. -/
def planFieldChecks : List FieldCheck :=
  planHeaderChecks d ++ (List.range (nat8At d 18)).flatMap fun n => planEntryChecks d (nat8At d 2) (planEntryOffset n)

theorem failsAt_planEntryChecks (e o : Nat) :
    FailsAt (planEntryChecks d (nat8At d 2) e) o ↔ planEntryOut d e o := by
  simp only [FailsAt, planEntryChecks, planEntryOut, List.mem_cons, Prod.mk.injEq, List.not_mem_nil, or_false,
    eq_comm (a := false), Bool.or_eq_false_iff, decide_eq_false_iff_not, beq_eq_false_iff_ne]
  constructor
  · rintro (⟨rfl, h⟩ | ⟨rfl, h⟩ | ⟨rfl, h⟩ | ⟨rfl, h⟩ | ⟨rfl, h⟩ | ⟨rfl, h⟩ | ⟨rfl, h⟩ | ⟨rfl, h⟩) <;> simp <;> omega
  · rintro (⟨rfl, h⟩ | ⟨rfl, h⟩ | ⟨rfl, h⟩ | ⟨rfl, h⟩ | ⟨rfl, h⟩ | ⟨rfl, h⟩ | ⟨rfl, h⟩) <;> simp <;> omega

theorem mem_allTargets (t : Fin 4) : t ∈ allTargets := by
  fin_cases t <;> simp [allTargets]

theorem failsAt_planHeaderChecks (o : Nat) :
    FailsAt (planHeaderChecks d) o ↔
      (o = 0 ∧ ¬ (100 ≤ nat16At d 0 ∧ nat16At d 0 ≤ 2000)) ∨ (o = 2 ∧ ¬ (1 ≤ nat8At d 2 ∧ nat8At d 2 ≤ 4))
        ∨ (∃ t : Fin 4, (o = 3 + 2 * t.val ∧ nat16At d o = 0)
            ∨ (o = 11 + t.val ∧ ¬ (25 ≤ nat8At d o ∧ nat8At d o ≤ 100)))
        ∨ (o = 15 ∧ ¬ (1 ≤ nat8At d 15 ∧ nat8At d 15 ≤ 15)) ∨ (o = 16 ∧ ¬ (1 ≤ nat8At d 16 ∧ nat8At d 16 ≤ 7))
        ∨ (o = 17 ∧ ¬ (1 ≤ nat8At d 17 ∧ nat8At d 17 ≤ 15))
        ∨ (o = 18 ∧ (¬ (1 ≤ nat8At d 18 ∧ nat8At d 18 ≤ 96) ∨ d.length < 19 + 10 * nat8At d 18 + 4)) := by
  have hcapacity : FailsAt (allTargets.map fun t => (3 + 2 * t.val, decide (1 ≤ nat16At d (3 + 2 * t.val)))) o ↔
      ∃ t : Fin 4, o = 3 + 2 * t.val ∧ nat16At d o = 0 := by
    simp only [FailsAt, List.mem_map, mem_allTargets, true_and, Prod.mk.injEq, decide_eq_false_iff_not, Nat.not_le,
      Nat.lt_one_iff]
    constructor <;> rintro ⟨t, rfl, h⟩ <;> exact ⟨t, rfl, h⟩
  have hpercent : FailsAt (allTargets.map fun t => (11 + t.val, within 25 100 (nat8At d (11 + t.val)))) o ↔
      ∃ t : Fin 4, o = 11 + t.val ∧ ¬ (25 ≤ nat8At d o ∧ nat8At d o ≤ 100) := by
    simp only [FailsAt, List.mem_map, mem_allTargets, true_and, Prod.mk.injEq, within, ← Bool.not_eq_true,
      Bool.and_eq_true, decide_eq_true_eq]
    constructor <;> rintro ⟨t, rfl, h⟩ <;> exact ⟨t, rfl, h⟩
  have hrest : planHeaderChecks d =
      [(0, within 100 2000 (nat16At d 0)), (2, within 1 4 (nat8At d 2))]
        ++ (allTargets.map fun t => (3 + 2 * t.val, decide (1 ≤ nat16At d (3 + 2 * t.val))))
        ++ (allTargets.map fun t => (11 + t.val, within 25 100 (nat8At d (11 + t.val))))
        ++ [(15, within 1 15 (nat8At d 15)), (16, within 1 7 (nat8At d 16)), (17, within 1 15 (nat8At d 17)),
            (18, within 1 96 (nat8At d 18)), (18, decide (19 + 10 * nat8At d 18 + 4 ≤ d.length))] := rfl
  rw [hrest]
  simp only [failsAt_append, hcapacity, hpercent, exists_or]
  simp only [FailsAt, List.mem_cons, Prod.mk.injEq, List.not_mem_nil, or_false, within, eq_comm (a := false),
    ← Bool.not_eq_true, Bool.and_eq_true, decide_eq_true_eq, Nat.not_le, or_assoc, and_or_left]

/-- The checks of the plan section fail where a field is out of its range. -/
theorem failsAt_planFieldChecks (o : Nat) : FailsAt (planFieldChecks d) o ↔ planFieldOut d o := by
  have hentries : FailsAt ((List.range (nat8At d 18)).flatMap fun n =>
      planEntryChecks d (nat8At d 2) (planEntryOffset n)) o ↔ ∃ n, n < nat8At d 18 ∧ planEntryOut d (19 + 10 * n) o := by
    simp only [FailsAt, List.mem_flatMap, List.mem_range]
    exact exists_congr fun n => and_congr_right fun _ => failsAt_planEntryChecks d _ o
  rw [planFieldChecks, failsAt_append, hentries, failsAt_planHeaderChecks, planFieldOut]
  simp only [or_assoc]

/-- The checks of a plan entry stand in the order of their offsets, inside the entry. -/
theorem planEntryChecks_offsets (targets e : Nat) :
    ((planEntryChecks d targets e).Pairwise fun a b => a.1 ≤ b.1)
      ∧ ∀ c ∈ planEntryChecks d targets e, e ≤ c.1 ∧ c.1 < e + 10 := by
  simp [planEntryChecks]

/-- The checks of the plan section stand in the order of their offsets. -/
theorem planFieldChecks_pairwise : (planFieldChecks d).Pairwise fun a b => a.1 ≤ b.1 := by
  have hheader : ((planHeaderChecks d).map (·.1)) = [0, 2, 3, 5, 7, 9, 11, 12, 13, 14, 15, 16, 17, 18, 18] := rfl
  have hlow : ∀ c ∈ planHeaderChecks d, c.1 ≤ 18 := by
    intro c hc
    have hmem : c.1 ∈ (planHeaderChecks d).map (·.1) := List.mem_map_of_mem hc
    rw [hheader] at hmem
    have hall : ∀ o ∈ [0, 2, 3, 5, 7, 9, 11, 12, 13, 14, 15, 16, 17, 18, 18], o ≤ 18 := by decide
    exact hall _ hmem
  refine List.pairwise_append.mpr ⟨?_, ?_, fun a ha b hb => ?_⟩
  · rw [← List.pairwise_map (f := fun c : FieldCheck => c.1) (R := (· ≤ ·)), hheader]
    decide
  · rw [List.pairwise_flatMap]
    refine ⟨fun n _ => (planEntryChecks_offsets d _ _).1, List.pairwise_lt_range.imp fun {m n} hmn a ha b hb => ?_⟩
    obtain ⟨-, ha⟩ := (planEntryChecks_offsets d _ _).2 a ha
    obtain ⟨hb, -⟩ := (planEntryChecks_offsets d _ _).2 b hb
    simp only [planEntryOffset] at ha hb
    omega
  · obtain ⟨n, -, hb⟩ := List.mem_flatMap.mp hb
    obtain ⟨hb, -⟩ := (planEntryChecks_offsets d _ _).2 b hb
    have := hlow a ha
    simp only [planEntryOffset] at hb
    omega

/-- The last number below a bound that satisfies a predicate. -/
theorem getLast?_filter_range (p : Nat → Bool) (N n : Nat) :
    ((List.range N).filter p).getLast? = some n ↔ n < N ∧ p n = true ∧ ∀ m, n < m → m < N → p m = false := by
  induction N with
  | zero => simp
  | succ N ih =>
    rw [List.range_succ, List.filter_append]
    cases hp : p N with
    | true =>
      simp only [List.filter_cons, hp, if_true, List.filter_nil, List.getLast?_append, List.getLast?_singleton,
        Option.some_or, Option.some.injEq]
      constructor
      · rintro rfl
        exact ⟨Nat.lt_succ_self N, hp, fun m h1 h2 => by omega⟩
      · rintro ⟨hn, -, hlast⟩
        by_contra hne
        have := hlast N (by omega) (Nat.lt_succ_self N)
        simp [hp] at this
    | false =>
      simp only [List.filter_cons, hp, Bool.false_eq_true, if_false, List.filter_nil, List.append_nil, ih]
      constructor
      · rintro ⟨hn, hpn, hlast⟩
        refine ⟨by omega, hpn, fun m h1 h2 => ?_⟩
        obtain h2 | rfl := Nat.lt_succ_iff_lt_or_eq.mp h2
        · exact hlast m h1 h2
        · exact hp
      · rintro ⟨hn, hpn, hlast⟩
        obtain hn | rfl := Nat.lt_succ_iff_lt_or_eq.mp hn
        · exact ⟨hn, hpn, fun m h1 h2 => hlast m h1 (by omega)⟩
        · simp [hp] at hpn

/-- The tier-end rule of a target fails where its last entry closes no tier (R6, R15). -/
theorem firstFailure_tierEndCheck {t : Nat} (ht : t < nat8At d 2) (o : Nat) :
    firstFailure (tierEndCheck d (nat8At d 18) t) = some o ↔ tierEndOut d t o := by
  have hlast (n : Nat) := getLast?_filter_range (fun n => nat8At d (planEntryOffset n + 1) == t) (nat8At d 18) n
  simp only [beq_iff_eq, beq_eq_false_iff_ne] at hlast
  unfold tierEndCheck tierEndOut
  cases hfind : ((List.range (nat8At d 18)).filter fun n => nat8At d (planEntryOffset n + 1) == t).getLast? with
  | none =>
    refine ⟨fun h => absurd h (by simp [firstFailure]), ?_⟩
    rintro ⟨-, n, hn, hnt, hmax, -⟩
    rw [(hlast n).mpr ⟨hn, hnt, hmax⟩] at hfind
    exact absurd hfind (by simp)
  | some n =>
    obtain ⟨hn, hnt, hmax⟩ := (hlast n).mp hfind
    have hfirst : firstFailure [(planEntryOffset n + 9, nat8At d (planEntryOffset n + 9) == 1)] = some o ↔
        o = planEntryOffset n + 9 ∧ nat8At d o ≠ 1 := by
      rw [firstFailure_cons]
      by_cases h1 : nat8At d (planEntryOffset n + 9) = 1
      · simp only [h1, beq_self_eq_true, if_true]
        refine ⟨fun h => absurd h (by simp [firstFailure]), ?_⟩
        rintro ⟨rfl, h⟩
        exact absurd h1 h
      · simp only [beq_iff_eq, h1, if_false, Option.some.injEq]
        exact ⟨fun h => ⟨h.symm, h ▸ h1⟩, fun h => h.1.symm⟩
    dsimp only
    rw [hfirst]
    constructor
    · rintro ⟨ho, hne⟩
      exact ⟨ht, n, hn, hnt, hmax, ho, hne⟩
    · rintro ⟨-, m, hm, hmt, hmmax, ho, hne⟩
      have hmn : m = n := Option.some.inj (((hlast m).mpr ⟨hm, hmt, hmmax⟩).symm.trans hfind)
      exact hmn ▸ ⟨ho, hne⟩

/-- The first failure of a plan section: its lowest field out of range, or else the tier-end rule, target by target
(R14, R15). -/
theorem firstFailure_planChecks (o : Nat) : firstFailure (planChecks d) = some o ↔
    (planFieldOut d o ∧ ∀ o' < o, ¬ planFieldOut d o')
      ∨ ((∀ o', ¬ planFieldOut d o') ∧ ∃ t, tierEndOut d t o ∧ ∀ t' < t, ∀ o', ¬ tierEndOut d t' o') := by
  have hsplit : planChecks d = planFieldChecks d ++ (List.range (nat8At d 2)).flatMap fun t =>
      tierEndCheck d (nat8At d 18) t := rfl
  have hfields := firstFailure_eq_some_iff (planFieldChecks_pairwise d)
  have hnone := firstFailure_eq_none_iff (planFieldChecks d)
  simp only [failsAt_planFieldChecks] at hfields hnone
  have htiers : firstFailure ((List.range (nat8At d 2)).flatMap fun t => tierEndCheck d (nat8At d 18) t) = some o ↔
      ∃ t, tierEndOut d t o ∧ ∀ t' < t, ∀ o', ¬ tierEndOut d t' o' := by
    rw [firstFailure_flatMap_range]
    have hbefore {t : Nat} (ht : t < nat8At d 2) :
        firstFailure (tierEndCheck d (nat8At d 18) t) = none ↔ ∀ o', ¬ tierEndOut d t o' := by
      simp only [← firstFailure_tierEndCheck d ht]
      exact Option.eq_none_iff_forall_ne_some
    constructor
    · rintro ⟨t, ht, hout, hno⟩
      exact ⟨t, (firstFailure_tierEndCheck d ht o).mp hout, fun t' ht' => (hbefore (ht'.trans ht)).mp (hno t' ht')⟩
    · rintro ⟨t, hout, hno⟩
      obtain ⟨ht, -⟩ := id hout
      exact ⟨t, ht, (firstFailure_tierEndCheck d ht o).mpr hout, fun t' ht' => (hbefore (ht'.trans ht)).mpr (hno t' ht')⟩
  rw [hsplit, firstFailure_append]
  cases hf : firstFailure (planFieldChecks d) with
  | none =>
    rw [Option.none_or, htiers]
    have hall := hnone.mp hf
    exact ⟨fun h => .inr ⟨hall, h⟩, fun h => h.elim (fun h => absurd h.1 (hall o)) fun h => h.2⟩
  | some p =>
    have hp := (hfields p).mp hf
    rw [Option.some_or, ← hf, hfields]
    exact ⟨.inl, fun h => h.elim id fun h => absurd hp.1 (h.1 p)⟩

/-- A plan section accepted has no field out of range, and every target's last entry closes a tier. -/
theorem firstFailure_planChecks_eq_none (h : firstFailure (planChecks d) = none) :
    (∀ o, ¬ planFieldOut d o) ∧ ∀ t o, ¬ tierEndOut d t o := by
  have hno (o : Nat) : ¬ FailsAt (planChecks d) o := (firstFailure_eq_none_iff _).mp h o
  refine ⟨fun o ho => hno o ((failsAt_append _ _ o).mpr (.inl ((failsAt_planFieldChecks d o).mpr ho))), fun t o ho => ?_⟩
  obtain ⟨ht, -⟩ := id ho
  have hfail := failsAt_of_firstFailure ((firstFailure_tierEndCheck d ht o).mpr ho)
  exact hno o ((failsAt_append _ _ o).mpr (.inr (List.mem_flatMap.mpr ⟨t, List.mem_range.mpr ht, hfail⟩)))

end

/-! ### The local section -/

section
variable (d : List Byte) (strapped : StationNo) (targets : Nat)

/-- The checks of the local section up to the ring length. -/
def localHeadChecks : List FieldCheck :=
  [(0, nat8At d 0 == strapped.toNat), (3, decide (nat8At d 3 ≤ 2)), (4, decide (1 ≤ nat8At d 4))]
    ++ ((List.range 12).map fun q => (5 + 2 * q, within 1 512 (nat16At d (5 + 2 * q))))
    ++ ((List.range 3).map fun c => (29 + 2 * c, decide (nat16At d (29 + 2 * c) ≤ 4095)))
    ++ [(35, within 1 32 (nat8At d 35))]

/-- The checks of the local section from the ring on. -/
def localTailChecks : List FieldCheck :=
  ((List.range (nat8At d 35)).flatMap fun i => ringSlotChecks d targets (ringSlotOffset i))
    ++ [(164, within 1 500 (nat16At d 164))]
    ++ ((List.range 4).flatMap fun t => monitorChecks d (166 + 5 * t))
    ++ [(186, decide (1 ≤ nat8At d 186))]

theorem localChecks_eq : localChecks d strapped targets = localHeadChecks d strapped ++ localTailChecks d targets := by
  simp only [localChecks, localHeadChecks, localTailChecks, List.append_assoc]

theorem failsAt_map_range (n : Nat) (f : Nat → Nat) (p : Nat → Bool) (o : Nat) :
    FailsAt ((List.range n).map fun i => (f i, p i)) o ↔ ∃ i : Fin n, o = f i.val ∧ p i.val = false := by
  simp only [FailsAt, List.mem_map, List.mem_range, Prod.mk.injEq, Fin.exists_iff, exists_prop, eq_comm (a := o)]

theorem failsAt_localHeadChecks (o : Nat) : FailsAt (localHeadChecks d strapped) o ↔
    (o = 0 ∧ nat8At d 0 ≠ strapped.toNat) ∨ (o = 3 ∧ 2 < nat8At d 3) ∨ (o = 4 ∧ nat8At d 4 = 0)
      ∨ (∃ q : Fin 12, o = 5 + 2 * q.val ∧ ¬ (1 ≤ nat16At d o ∧ nat16At d o ≤ 512))
      ∨ (∃ c : Fin 3, o = 29 + 2 * c.val ∧ 4095 < nat16At d o)
      ∨ (o = 35 ∧ ¬ (1 ≤ nat8At d 35 ∧ nat8At d 35 ≤ 32)) := by
  have hlimit : FailsAt ((List.range 12).map fun q => (5 + 2 * q, within 1 512 (nat16At d (5 + 2 * q)))) o ↔
      ∃ q : Fin 12, o = 5 + 2 * q.val ∧ ¬ (1 ≤ nat16At d o ∧ nat16At d o ≤ 512) := by
    rw [failsAt_map_range]
    refine exists_congr fun q => and_congr_right fun ho => ?_
    simp [← ho, within]
  have hbank : FailsAt ((List.range 3).map fun c => (29 + 2 * c, decide (nat16At d (29 + 2 * c) ≤ 4095))) o ↔
      ∃ c : Fin 3, o = 29 + 2 * c.val ∧ 4095 < nat16At d o := by
    rw [failsAt_map_range]
    refine exists_congr fun q => and_congr_right fun ho => ?_
    simp [← ho]
  unfold localHeadChecks
  simp only [failsAt_append, hlimit, hbank]
  simp only [FailsAt, List.mem_cons, Prod.mk.injEq, List.not_mem_nil, or_false, within, eq_comm (a := false),
    ← Bool.not_eq_true, Bool.and_eq_true, decide_eq_true_eq, beq_iff_eq, Nat.not_le, Nat.lt_one_iff, or_assoc, ne_eq]

theorem failsAt_ringSlotChecks (o e : Nat) : FailsAt (ringSlotChecks d targets e) o ↔
    (o = e ∧ targets ≤ nat8At d o) ∨ (o = e + 1 ∧ 2 < nat8At d o)
      ∨ (o = e + 2 ∧ 1 < nat8At d o) ∨ (o = e + 3 ∧ 1 < nat8At d o) := by
  simp only [FailsAt, ringSlotChecks, List.mem_cons, Prod.mk.injEq, List.not_mem_nil, or_false]
  constructor <;> rintro (⟨rfl, h⟩ | ⟨rfl, h⟩ | ⟨rfl, h⟩ | ⟨rfl, h⟩) <;> simpa using h

theorem failsAt_monitorChecks (o t : Nat) : FailsAt (monitorChecks d (166 + 5 * t)) o ↔
    (o = 168 + 5 * t ∧ nat16At d (166 + 5 * t) ≤ nat16At d o)
      ∨ (o = 170 + 5 * t ∧ ¬ (1 ≤ nat8At d o ∧ nat8At d o ≤ 8)) := by
  have hlow : 168 + 5 * t = 166 + 5 * t + 2 := by omega
  have hdebounce : 170 + 5 * t = 166 + 5 * t + 4 := by omega
  rw [hlow, hdebounce]
  generalize 166 + 5 * t = e
  simp only [FailsAt, monitorChecks, within, List.mem_cons, Prod.mk.injEq, List.not_mem_nil, or_false]
  constructor <;> rintro (⟨rfl, h⟩ | ⟨rfl, h⟩) <;> simpa using h

theorem failsAt_localTailChecks (o : Nat) : FailsAt (localTailChecks d targets) o ↔
    (∃ i, i < nat8At d 35 ∧ ((o = 36 + 4 * i ∧ targets ≤ nat8At d o) ∨ (o = 36 + 4 * i + 1 ∧ 2 < nat8At d o)
        ∨ (o = 36 + 4 * i + 2 ∧ 1 < nat8At d o) ∨ (o = 36 + 4 * i + 3 ∧ 1 < nat8At d o)))
      ∨ (o = 164 ∧ ¬ (1 ≤ nat16At d 164 ∧ nat16At d 164 ≤ 500))
      ∨ (∃ t : Fin 4, (o = 168 + 5 * t.val ∧ nat16At d (166 + 5 * t.val) ≤ nat16At d o)
        ∨ (o = 170 + 5 * t.val ∧ ¬ (1 ≤ nat8At d o ∧ nat8At d o ≤ 8)))
      ∨ (o = 186 ∧ nat8At d 186 = 0) := by
  have hslots : FailsAt ((List.range (nat8At d 35)).flatMap fun i => ringSlotChecks d targets (ringSlotOffset i)) o ↔
      ∃ i, i < nat8At d 35 ∧ FailsAt (ringSlotChecks d targets (36 + 4 * i)) o := by
    simp only [FailsAt, List.mem_flatMap, List.mem_range, ringSlotOffset]
  have hmonitors : FailsAt ((List.range 4).flatMap fun t => monitorChecks d (166 + 5 * t)) o ↔
      ∃ t : Fin 4, FailsAt (monitorChecks d (166 + 5 * t.val)) o := by
    simp only [FailsAt, List.mem_flatMap, List.mem_range, Fin.exists_iff, exists_prop]
  unfold localTailChecks
  simp only [failsAt_append, hslots, hmonitors, failsAt_ringSlotChecks, failsAt_monitorChecks]
  simp only [FailsAt, List.mem_cons, Prod.mk.injEq, List.not_mem_nil, or_false, within, eq_comm (a := false),
    ← Bool.not_eq_true, Bool.and_eq_true, decide_eq_true_eq, Nat.not_le, Nat.lt_one_iff, or_assoc]

/-- The checks of the local section fail where a field is out of its range. -/
theorem failsAt_localChecks (o : Nat) :
    FailsAt (localChecks d strapped targets) o ↔ localFieldOut d strapped targets o := by
  rw [localChecks_eq, failsAt_append, failsAt_localHeadChecks, failsAt_localTailChecks, localFieldOut]
  simp only [or_assoc]

theorem localHeadChecks_offsets : (localHeadChecks d strapped).map (·.1) =
    [0, 3, 4, 5, 7, 9, 11, 13, 15, 17, 19, 21, 23, 25, 27, 29, 31, 33, 35] := rfl

/-- A ring slot's checks and a monitor's stand in the order of their offsets, inside the slot and the set. -/
theorem ringSlotChecks_offsets (o : Nat) : ((ringSlotChecks d targets o).Pairwise fun a b => a.1 ≤ b.1)
    ∧ ∀ c ∈ ringSlotChecks d targets o, o ≤ c.1 ∧ c.1 < o + 4 := by
  simp [ringSlotChecks]

theorem monitorChecks_offsets (o : Nat) : ((monitorChecks d o).Pairwise fun a b => a.1 ≤ b.1)
    ∧ ∀ c ∈ monitorChecks d o, o + 2 ≤ c.1 ∧ c.1 ≤ o + 4 := by
  simp [monitorChecks]

/-- The checks from the ring on stand in the order of their offsets when the ring is no longer than its room. -/
theorem localTailChecks_pairwise (h : nat8At d 35 ≤ 32) :
    (localTailChecks d targets).Pairwise fun a b => a.1 ≤ b.1 := by
  have hslot (c : FieldCheck) (hc : c ∈ (List.range (nat8At d 35)).flatMap fun i =>
      ringSlotChecks d targets (ringSlotOffset i)) : c.1 < 164 := by
    obtain ⟨i, hi, hc⟩ := List.mem_flatMap.mp hc
    obtain ⟨-, hlt⟩ := (ringSlotChecks_offsets d targets _).2 c hc
    have := List.mem_range.mp hi
    simp only [ringSlotOffset] at hlt
    omega
  have hmonitor (c : FieldCheck) (hc : c ∈ (List.range 4).flatMap fun t => monitorChecks d (166 + 5 * t)) :
      164 < c.1 ∧ c.1 < 186 := by
    obtain ⟨t, ht, hc⟩ := List.mem_flatMap.mp hc
    obtain ⟨hlo, hhi⟩ := (monitorChecks_offsets d _).2 c hc
    have := List.mem_range.mp ht
    omega
  have hslots : ((List.range (nat8At d 35)).flatMap fun i =>
      ringSlotChecks d targets (ringSlotOffset i)).Pairwise fun a b => a.1 ≤ b.1 := by
    rw [List.pairwise_flatMap]
    refine ⟨fun n _ => (ringSlotChecks_offsets d targets _).1, List.pairwise_lt_range.imp fun {m n} hmn a ha b hb => ?_⟩
    obtain ⟨-, ha⟩ := (ringSlotChecks_offsets d targets _).2 a ha
    obtain ⟨hb, -⟩ := (ringSlotChecks_offsets d targets _).2 b hb
    simp only [ringSlotOffset] at ha hb
    omega
  have hmonitors : ((List.range 4).flatMap fun t => monitorChecks d (166 + 5 * t)).Pairwise fun a b => a.1 ≤ b.1 := by
    rw [List.pairwise_flatMap]
    refine ⟨fun n _ => (monitorChecks_offsets d _).1, List.pairwise_lt_range.imp fun {m n} hmn a ha b hb => ?_⟩
    obtain ⟨-, ha⟩ := (monitorChecks_offsets d _).2 a ha
    obtain ⟨hb, -⟩ := (monitorChecks_offsets d _).2 b hb
    omega
  unfold localTailChecks
  refine List.pairwise_append.mpr ⟨List.pairwise_append.mpr ⟨List.pairwise_append.mpr ⟨hslots, List.pairwise_singleton _ _,
    fun a ha b hb => ?_⟩, hmonitors, fun a ha b hb => ?_⟩, List.pairwise_singleton _ _, fun a ha b hb => ?_⟩
  · rw [List.mem_singleton.mp hb]
    exact (hslot a ha).le
  · obtain ⟨hlo, -⟩ := hmonitor b hb
    obtain ha | ha := List.mem_append.mp ha
    · have := hslot a ha
      omega
    · rw [List.mem_singleton.mp ha]
      exact hlo.le
  · rw [List.mem_singleton.mp hb]
    obtain ha | ha := List.mem_append.mp ha
    · obtain ha | ha := List.mem_append.mp ha
      · have := hslot a ha
        exact Nat.le_of_lt (by omega)
      · rw [List.mem_singleton.mp ha]
        exact (by decide : (164 : Nat) ≤ 186)
    · exact (hmonitor a ha).2.le

/-- The first failure of a local section: its lowest field out of range (R14). -/
theorem firstFailure_localChecks (o : Nat) : firstFailure (localChecks d strapped targets) = some o ↔
    localFieldOut d strapped targets o ∧ ∀ o' < o, ¬ localFieldOut d strapped targets o' := by
  simp only [← failsAt_localChecks]
  rw [localChecks_eq]
  refine firstFailure_append_eq_some_iff ?_ (fun x hx y hy => ?_) (fun hnone => ?_) o
  · rw [← List.pairwise_map (f := fun c : FieldCheck => c.1) (R := (· ≤ ·)), localHeadChecks_offsets]
    decide
  · have hmem : x.1 ∈ (localHeadChecks d strapped).map (·.1) := List.mem_map_of_mem hx
    rw [localHeadChecks_offsets] at hmem
    have hall : ∀ o ∈ [0, 3, 4, 5, 7, 9, 11, 13, 15, 17, 19, 21, 23, 25, 27, 29, 31, 33, 35], o < 36 := by decide
    have hx35 := hall _ hmem
    suffices 36 ≤ y.1 by omega
    simp only [localTailChecks, List.mem_append, List.mem_flatMap, List.mem_singleton] at hy
    obtain ((⟨i, -, hy⟩ | rfl) | ⟨t, -, hy⟩) | rfl := hy
    · obtain ⟨hlo, -⟩ := (ringSlotChecks_offsets d targets _).2 y hy
      simp only [ringSlotOffset] at hlo
      omega
    · exact (by decide : (36 : Nat) ≤ 164)
    · obtain ⟨hlo, -⟩ := (monitorChecks_offsets d _).2 y hy
      omega
    · exact (by decide : (36 : Nat) ≤ 186)
  · refine localTailChecks_pairwise d targets (Nat.le_of_not_lt fun hlt => ?_)
    have hfail := (failsAt_localHeadChecks d strapped 35).mpr
      (.inr (.inr (.inr (.inr (.inr ⟨rfl, fun h => absurd h.2 (Nat.not_le.mpr hlt)⟩)))))
    exact (firstFailure_eq_none_iff _).mp hnone 35 hfail

end

/-! ### Values -/

/-- A byte that a check of a target, a class, a mode or a flag has passed codes what it is read as. -/
theorem targetOfByte_val {b : Byte} (h : b.toNat < 4) : (targetOfByte b).val = b.toNat := Nat.mod_eq_of_lt h

theorem targetOfByte_val_le (b : Byte) : (targetOfByte b).val ≤ b.toNat := Nat.mod_le _ _

theorem byte_cases_of_le_two {b : Byte} (h : b.toNat ≤ 2) : b = 0 ∨ b = 1 ∨ b = 2 := by
  obtain h0 | h1 | h2 : b.toNat = 0 ∨ b.toNat = 1 ∨ b.toNat = 2 := by omega
  · exact .inl (BitVec.eq_of_toNat_eq h0)
  · exact .inr (.inl (BitVec.eq_of_toNat_eq h1))
  · exact .inr (.inr (BitVec.eq_of_toNat_eq h2))

theorem classOfByte_index {b : Byte} (h : b.toNat ≤ 2) : (classOfByte b).index.val = b.toNat := by
  obtain rfl | rfl | rfl := byte_cases_of_le_two h <;> rfl

theorem checkModeOfByte_code {b : Byte} (h : b.toNat ≤ 2) :
    ((CheckMode.ofByte b).getD .optional).code.toNat = b.toNat := by
  obtain rfl | rfl | rfl := byte_cases_of_le_two h <;> rfl

theorem beq_one_toNat {b : Byte} (h : b.toNat ≤ 1) : (b == 1).toNat = b.toNat := by
  obtain rfl | rfl | rfl := byte_cases_of_le_two (h.trans one_le_two)
  · rfl
  · rfl
  · exact absurd h (by decide)

/-- What a plan entry accepted is read as. -/
theorem planEntryAt_of_not_out {d : List Byte} {e : Nat} (h : ∀ o, ¬ planEntryOut d e o) (htargets : nat8At d 2 ≤ 4) :
    let p := planEntryAt d e
    p.valid (nat8At d 2) ∧ (p.station = none ↔ nat8At d e = 255) ∧ (∀ k, p.station = some k → k.toNat = nat8At d e)
      ∧ p.target.val = nat8At d (e + 1) ∧ p.cls.index.val = nat8At d (e + 2) ∧ p.weight = nat8At d (e + 3)
      ∧ p.floor = nat16At d (e + 4) ∧ p.ceiling = nat16At d (e + 6)
      ∧ p.reserve.toNat = nat8At d (e + 8) ∧ p.tierEnd.toNat = nat8At d (e + 9) := by
  have hstation : nat8At d e ≤ 15 ∨ nat8At d e = 255 := by
    by_contra hne
    exact h e (.inl ⟨rfl, by omega, by omega⟩)
  have htarget : nat8At d (e + 1) < nat8At d 2 := Nat.lt_of_not_le fun hle => h _ (.inr (.inl ⟨rfl, hle⟩))
  have hclass : nat8At d (e + 2) ≤ 2 := Nat.le_of_not_lt fun hlt => h _ (.inr (.inr (.inl ⟨rfl, hlt⟩)))
  have hweight : nat8At d (e + 3) ≠ 0 := fun h0 => h _ (.inr (.inr (.inr (.inl ⟨rfl, h0⟩))))
  have hceiling : nat16At d (e + 6) ≠ 0 ∧ nat16At d (e + 4) ≤ nat16At d (e + 6) := by
    by_contra hne
    exact h _ (.inr (.inr (.inr (.inr (.inl ⟨rfl, by omega⟩)))))
  have hreserve : nat8At d (e + 8) ≤ 1 :=
    Nat.le_of_not_lt fun hlt => h _ (.inr (.inr (.inr (.inr (.inr (.inl ⟨rfl, hlt⟩))))))
  have htierEnd : nat8At d (e + 9) ≤ 1 :=
    Nat.le_of_not_lt fun hlt => h _ (.inr (.inr (.inr (.inr (.inr (.inr ⟨rfl, hlt⟩))))))
  have htargetVal : (planEntryAt d e).target.val = nat8At d (e + 1) :=
    targetOfByte_val (show nat8At d (e + 1) < 4 by omega)
  have hvalid : (planEntryAt d e).valid (nat8At d 2) := by
    refine ⟨htargetVal ▸ htarget, Nat.one_le_iff_ne_zero.mpr hweight, Nat.le_of_lt_succ (nat8At_lt d _), hceiling.2,
      Nat.one_le_iff_ne_zero.mpr hceiling.1, Nat.le_of_lt_succ (nat16At_lt d _)⟩
  refine ⟨hvalid, ?_, ?_, htargetVal, classOfByte_index hclass, rfl, rfl, rfl, beq_one_toNat hreserve,
    beq_one_toNat htierEnd⟩
  · simp only [planEntryAt]
    split_ifs with hall <;> simp [hall]
  · intro k hk
    simp only [planEntryAt] at hk
    split_ifs at hk with hall
    obtain rfl := Option.some.inj hk
    have hlow : nat8At d e < 16 := by omega
    exact (BitVec.toNat_setWidth _ _).trans (Nat.mod_eq_of_lt hlow)

/-- The header fields of a plan section accepted are in range (R4). -/
theorem planHeader_in_range {d : List Byte} (h : ∀ o, ¬ planFieldOut d o) :
    (100 ≤ nat16At d 0 ∧ nat16At d 0 ≤ 2000) ∧ (1 ≤ nat8At d 2 ∧ nat8At d 2 ≤ 4)
      ∧ (∀ t : Fin 4, nat16At d (3 + 2 * t.val) ≠ 0 ∧ 25 ≤ nat8At d (11 + t.val) ∧ nat8At d (11 + t.val) ≤ 100)
      ∧ (1 ≤ nat8At d 15 ∧ nat8At d 15 ≤ 15) ∧ (1 ≤ nat8At d 16 ∧ nat8At d 16 ≤ 7)
      ∧ (1 ≤ nat8At d 17 ∧ nat8At d 17 ≤ 15) ∧ (1 ≤ nat8At d 18 ∧ nat8At d 18 ≤ 96) := by
  refine ⟨by_contra fun hne => h _ (.inl ⟨rfl, hne⟩), by_contra fun hne => h _ (.inr (.inl ⟨rfl, hne⟩)),
    fun t => ⟨fun h0 => h _ (.inr (.inr (.inl ⟨t, .inl ⟨rfl, h0⟩⟩))),
      by_contra fun hne => h _ (.inr (.inr (.inl ⟨t, .inr ⟨rfl, hne⟩⟩)))⟩,
    by_contra fun hne => h _ (.inr (.inr (.inr (.inl ⟨rfl, hne⟩)))),
    by_contra fun hne => h _ (.inr (.inr (.inr (.inr (.inl ⟨rfl, hne⟩))))),
    by_contra fun hne => h _ (.inr (.inr (.inr (.inr (.inr (.inl ⟨rfl, hne⟩)))))),
    by_contra fun hne => h _ (.inr (.inr (.inr (.inr (.inr (.inr (.inl ⟨rfl, .inl hne⟩)))))))⟩

/-- The entries of a plan section accepted are in range (R5, R6). -/
theorem planEntry_in_range {d : List Byte} (h : ∀ o, ¬ planFieldOut d o) {n : Nat} (hn : n < nat8At d 18) :
    ∀ o, ¬ planEntryOut d (planEntryOffset n) o :=
  fun o ho => h o (.inr (.inr (.inr (.inr (.inr (.inr (.inr ⟨n, hn, ho⟩)))))))

/-- The last entry of a target in the plan read is the last entry of the section with that target. -/
theorem planOf_lastEntry {d : List Byte} (h : ∀ o, ¬ planFieldOut d o) {t : Fin 4} {e : PlanEntry}
    (he : ((planOf d).entries.filter fun e => e.target == t).getLast? = some e) :
    ∃ n, n < nat8At d 18 ∧ nat8At d (planEntryOffset n + 1) = t.val
      ∧ (∀ m, n < m → m < nat8At d 18 → nat8At d (planEntryOffset m + 1) ≠ t.val)
      ∧ e = planEntryAt d (planEntryOffset n) := by
  obtain ⟨-, ⟨-, htargets⟩, -⟩ := planHeader_in_range h
  have htarget (n : Nat) (hn : n ∈ List.range (nat8At d 18)) :
      ((planEntryAt d (planEntryOffset n)).target == t) = (nat8At d (planEntryOffset n + 1) == t.val) := by
    obtain ⟨-, -, -, hval, -⟩ := planEntryAt_of_not_out (planEntry_in_range h (List.mem_range.mp hn)) htargets
    rw [← hval, Bool.eq_iff_iff, beq_iff_eq, beq_iff_eq, Fin.ext_iff]
  have hentries : (planOf d).entries = (List.range (nat8At d 18)).map fun n => planEntryAt d (planEntryOffset n) := rfl
  rw [hentries, List.filter_map, List.getLast?_map, Option.map_eq_some_iff] at he
  obtain ⟨n, hlast, rfl⟩ := he
  have hfilter : (List.range (nat8At d 18)).filter
        ((fun e : PlanEntry => e.target == t) ∘ fun n => planEntryAt d (planEntryOffset n))
      = (List.range (nat8At d 18)).filter fun n => nat8At d (planEntryOffset n + 1) == t.val :=
    List.filter_congr htarget
  rw [hfilter, getLast?_filter_range] at hlast
  obtain ⟨hn, hnt, hmax⟩ := hlast
  exact ⟨n, hn, beq_iff_eq.mp hnt, fun m h1 h2 => beq_eq_false_iff_ne.mp (hmax m h1 h2), rfl⟩

/-- A plan section accepted holds a valid plan (R4 to R6, R15). -/
theorem planOf_valid {d : List Byte} (h : firstFailure (planChecks d) = none) : (planOf d).valid := by
  obtain ⟨hfields, htiers⟩ := firstFailure_planChecks_eq_none d h
  obtain ⟨hepoch, htargets, hcapacity, hlisten, hmiss, hvoid, hcount⟩ := planHeader_in_range hfields
  refine ⟨hepoch, htargets, fun t => ?_, hlisten, hmiss, hvoid, ?_, fun e he => ?_, fun t e he => ?_⟩
  · obtain ⟨hcap, hlo, hhi⟩ := hcapacity t
    simp only [planOf, Vector.getElem_ofFn, Fin.getElem_fin]
    exact ⟨Nat.one_le_iff_ne_zero.mpr hcap, Nat.le_of_lt_succ (nat16At_lt d _), hlo, hhi⟩
  · simpa [planOf] using hcount
  · obtain ⟨n, hn, rfl⟩ := List.mem_map.mp he
    exact (planEntryAt_of_not_out (planEntry_in_range hfields (List.mem_range.mp hn)) htargets.2).1
  · obtain ⟨n, hn, hnt, hmax, rfl⟩ := planOf_lastEntry hfields he
    obtain ⟨-, -, -, hval, -, -, -, -, -, hend⟩ := planEntryAt_of_not_out (planEntry_in_range hfields hn) htargets.2
    obtain ⟨⟨hlt, -⟩, -⟩ := planEntryAt_of_not_out (planEntry_in_range hfields hn) htargets.2
    have hone : nat8At d (planEntryOffset n + 9) = 1 := by
      by_contra hne
      exact htiers t.val _ ⟨hnt ▸ hval ▸ hlt, n, hn, hnt, hmax, rfl, hne⟩
    rw [hone] at hend
    exact Bool.toNat_eq_one.mp hend

/-- What a local section accepted lies in (R8, R9). -/
theorem localSection_in_range {d : List Byte} {strapped : StationNo} {targets : Nat}
    (h : ∀ o, ¬ localFieldOut d strapped targets o) :
    nat8At d 0 = strapped.toNat ∧ nat8At d 3 ≤ 2 ∧ nat8At d 4 ≠ 0
      ∧ (∀ q : Fin 12, 1 ≤ nat16At d (5 + 2 * q.val) ∧ nat16At d (5 + 2 * q.val) ≤ 512)
      ∧ (∀ c : Fin 3, nat16At d (29 + 2 * c.val) ≤ 4095) ∧ (1 ≤ nat8At d 35 ∧ nat8At d 35 ≤ 32)
      ∧ (∀ i < nat8At d 35, nat8At d (36 + 4 * i) < targets ∧ nat8At d (36 + 4 * i + 1) ≤ 2
          ∧ nat8At d (36 + 4 * i + 2) ≤ 1 ∧ nat8At d (36 + 4 * i + 3) ≤ 1)
      ∧ (1 ≤ nat16At d 164 ∧ nat16At d 164 ≤ 500)
      ∧ (∀ t : Fin 4, nat16At d (168 + 5 * t.val) < nat16At d (166 + 5 * t.val)
          ∧ 1 ≤ nat8At d (170 + 5 * t.val) ∧ nat8At d (170 + 5 * t.val) ≤ 8)
      ∧ nat8At d 186 ≠ 0 := by
  refine ⟨by_contra fun hne => h _ (.inl ⟨rfl, hne⟩), Nat.le_of_not_lt fun hlt => h _ (.inr (.inl ⟨rfl, hlt⟩)),
    fun h0 => h _ (.inr (.inr (.inl ⟨rfl, h0⟩))),
    fun q => by_contra fun hne => h _ (.inr (.inr (.inr (.inl ⟨q, rfl, hne⟩)))),
    fun c => Nat.le_of_not_lt fun hlt => h _ (.inr (.inr (.inr (.inr (.inl ⟨c, rfl, hlt⟩))))),
    by_contra fun hne => h _ (.inr (.inr (.inr (.inr (.inr (.inl ⟨rfl, hne⟩)))))), fun i hi => ?_,
    by_contra fun hne => h _ (.inr (.inr (.inr (.inr (.inr (.inr (.inr (.inl ⟨rfl, hne⟩)))))))), fun t => ?_,
    fun h0 => h _ (.inr (.inr (.inr (.inr (.inr (.inr (.inr (.inr (.inr ⟨rfl, h0⟩)))))))))⟩
  · have hslot (o : Nat) : ¬ ((o = 36 + 4 * i ∧ targets ≤ nat8At d o) ∨ (o = 36 + 4 * i + 1 ∧ 2 < nat8At d o)
        ∨ (o = 36 + 4 * i + 2 ∧ 1 < nat8At d o) ∨ (o = 36 + 4 * i + 3 ∧ 1 < nat8At d o)) :=
      fun ho => h o (.inr (.inr (.inr (.inr (.inr (.inr (.inl ⟨i, hi, ho⟩)))))))
    exact ⟨Nat.lt_of_not_le fun hle => hslot _ (.inl ⟨rfl, hle⟩),
      Nat.le_of_not_lt fun hlt => hslot _ (.inr (.inl ⟨rfl, hlt⟩)),
      Nat.le_of_not_lt fun hlt => hslot _ (.inr (.inr (.inl ⟨rfl, hlt⟩))),
      Nat.le_of_not_lt fun hlt => hslot _ (.inr (.inr (.inr ⟨rfl, hlt⟩)))⟩
  · have hset (o : Nat) : ¬ ((o = 168 + 5 * t.val ∧ nat16At d (166 + 5 * t.val) ≤ nat16At d o)
        ∨ (o = 170 + 5 * t.val ∧ ¬ (1 ≤ nat8At d o ∧ nat8At d o ≤ 8))) :=
      fun ho => h o (.inr (.inr (.inr (.inr (.inr (.inr (.inr (.inr (.inl ⟨t, ho⟩)))))))))
    exact ⟨Nat.lt_of_not_le fun hle => hset _ (.inl ⟨rfl, hle⟩),
      by_contra fun hne => hset _ (.inr ⟨rfl, hne⟩)⟩

/-- A local section accepted holds valid settings (R8, R9). -/
theorem settingsOf_valid {d : List Byte} {strapped : StationNo} {targets : Nat}
    (h : ∀ o, ¬ localFieldOut d strapped targets o) : (settingsOf d).valid targets := by
  obtain ⟨-, -, hage, hlimits, hbanks, hring, hslots, hstep, hmonitors, hdrain⟩ := localSection_in_range h
  refine ⟨⟨Nat.one_le_iff_ne_zero.mpr hage, Nat.le_of_lt_succ (nat8At_lt d _)⟩, fun q => ?_, fun c => ?_, ?_, fun r hr => ?_,
    hstep, fun t => ?_, Nat.one_le_iff_ne_zero.mpr hdrain, Nat.le_of_lt_succ (nat8At_lt d _)⟩
  · simpa [settingsOf] using hlimits q
  · simpa [settingsOf] using hbanks c
  · simpa [settingsOf] using hring
  · obtain ⟨i, hi, rfl⟩ := List.mem_map.mp hr
    exact (targetOfByte_val_le _).trans_lt (hslots i (List.mem_range.mp hi)).1
  · obtain ⟨hlow, hdebounce⟩ := hmonitors t
    simp only [settingsOf, Vector.getElem_ofFn, Fin.getElem_fin]
    exact ⟨hlow, Nat.le_of_lt_succ (nat16At_lt d _), hdebounce⟩

/-- What a local section accepted is read as. -/
theorem settingsOf_fields {d : List Byte} {strapped : StationNo} {targets : Nat}
    (h : ∀ o, ¬ localFieldOut d strapped targets o) :
    let l := settingsOf d
    l.eventMask.toNat = nat16At d 1 % 16384 ∧ l.checkMode.code.toNat = nat8At d 3
      ∧ ∀ (i : Nat) (r : RingSlot), l.ring[i]? = some r →
        (targets ≤ 4 → r.target.val = nat8At d (36 + 4 * i)) ∧ r.cls.index.val = nat8At d (36 + 4 * i + 1)
          ∧ r.skip.toNat = nat8At d (36 + 4 * i + 2) ∧ r.stop.toNat = nat8At d (36 + 4 * i + 3) := by
  obtain ⟨-, hmode, -, -, -, -, hslots, -⟩ := localSection_in_range h
  refine ⟨BitVec.toNat_setWidth _ _, checkModeOfByte_code hmode, fun i r hr => ?_⟩
  obtain ⟨j, hj, rfl⟩ := List.getElem?_map .. ▸ hr |> Option.map_eq_some_iff.mp
  obtain ⟨hi, rfl⟩ := List.getElem?_eq_some_iff.mp hj
  rw [List.length_range] at hi
  rw [List.getElem_range]
  obtain ⟨htarget, hclass, hskip, hstop⟩ := hslots i hi
  exact ⟨fun h4 => targetOfByte_val (htarget.trans_le h4), classOfByte_index hclass, beq_one_toNat hskip,
    beq_one_toNat hstop⟩

/-- Settles O9: the checks stand in the order of their offsets, and each field the checks let pass is read within its
range. -/
theorem acceptedSectionsAreWithinTheirRanges : Obligations.AcceptedSectionsAreWithinTheirRanges := by
  refine ⟨fun d o => ⟨rfl, nat16At_eq d o⟩, firstFailure_planChecks, firstFailure_localChecks, fun d h => ?_,
    fun d strapped targets h => ?_⟩
  · obtain ⟨hfields, -⟩ := firstFailure_planChecks_eq_none d h
    obtain ⟨-, ⟨-, htargets⟩, -⟩ := planHeader_in_range hfields
    refine ⟨planOf_valid h, rfl, rfl, fun t => by simp [planOf], rfl, rfl, rfl, by simp [planOf], fun n e he => ?_⟩
    obtain ⟨j, hj, rfl⟩ := List.getElem?_map .. ▸ he |> Option.map_eq_some_iff.mp
    obtain ⟨hn, rfl⟩ := List.getElem?_eq_some_iff.mp hj
    rw [List.length_range] at hn
    rw [List.getElem_range]
    exact (planEntryAt_of_not_out (planEntry_in_range hfields hn) htargets).2
  · have hfields (o : Nat) : ¬ localFieldOut d strapped targets o := fun ho =>
      (firstFailure_eq_none_iff _).mp h o ((failsAt_localChecks d strapped targets o).mpr ho)
    obtain ⟨hmask, hmode, hring⟩ := settingsOf_fields hfields
    exact ⟨(localSection_in_range hfields).1, settingsOf_valid hfields, hmask, hmode, rfl, fun q => by simp [settingsOf],
      fun c => by simp [settingsOf], by simp [settingsOf], hring, rfl, fun t => by simp [settingsOf], rfl⟩

end Sys2Proof.Machine

/-! PROOF. What a granule of a load leaves, in its three outcomes; and how an invariant of the blocks is kept by a step: it
holds of a station at rest, of one just loaded, and is kept by each move in service. -/

namespace Sys2Proof.Machine

open Sys2Proof

/-! ### A granule of a load -/

/-- What a granule leaves of a station at rest: the load goes on, it fails (R17), or it succeeds (R16). -/
inductive State.LoadStep (s : State) : State → Prop where
  | reading (l : Loader) (m : Mgmt) (hphase : l.phase ≠ .idle) (hplan : l.plan = s.loader.plan)
      (hsettings : l.settings = s.loader.settings) (hsel : l.cfgSelected = true ∨ l.cfgSelected = s.loader.cfgSelected)
      (hstaged : l.phase = .localPhase →
        l.stagedPlan.valid ∨ (s.loader.phase = .localPhase ∧ l.stagedPlan = s.loader.stagedPlan))
      (hm : s.KeepsFlags m) : s.LoadStep { s with loader := l, mgmt := m }
  | failed (l : Loader) (cause : Cause) (m : Mgmt) (hphase : l.phase = .idle) (hplan : l.plan = s.loader.plan)
      (hsettings : l.settings = s.loader.settings) (hsel : l.cfgSelected = false) (hm : s.KeepsFlags m)
      (hf : m.flag .failsafe = true) :
      s.LoadStep { s with loader := l, ctl := { s.ctl with station := .failsafe, cause := cause }, mgmt := m }
  | loaded (l : Loader) (m : Mgmt) (hlocal : s.loader.phase = .localPhase) (hphase : l.phase = .idle)
      (hplan : l.plan = s.loader.stagedPlan) (hsettings : l.settings.valid l.plan.targets) (hsel : l.cfgSelected = false)
      (hm : s.KeepsFlags m) :
      s.LoadStep { s with
        loader := l, sbi := { s.sbi with running := true }, alloc := { s.alloc with standing := Record.sized l.plan }
        ctl := { s.ctl with station := .listening }, mgmt := m, sent := s.sent ++ [.flushed] }

/-- What of the loader a granule taken leaves until its section is whole. -/
structure Loader.Agrees (l l' : Loader) : Prop where
  phase : l'.phase = l.phase
  plan : l'.plan = l.plan
  settings : l'.settings = l.settings
  selected : l'.cfgSelected = l.cfgSelected
  staged : l'.stagedPlan = l.stagedPlan

theorem State.LoadStep.of_agrees {s t : State} {l : Loader} {m : Mgmt} (ha : s.loader.Agrees l) (hm : s.KeepsFlags m)
    (h : ({ s with loader := l, mgmt := m } : State).LoadStep t) : s.LoadStep t := by
  obtain ⟨aphase, aplan, asettings, asel, astaged⟩ := ha
  cases h with
  | reading l' m' hphase hplan hsettings hsel hstaged hm' =>
    refine .reading l' m' hphase (hplan.trans aplan) (hsettings.trans asettings) (asel ▸ hsel) (fun hl => ?_)
      fun e he => hm' e (hm e he)
    exact (hstaged hl).imp_right fun ⟨hp, hs⟩ => ⟨aphase ▸ hp, hs.trans astaged⟩
  | failed l' cause m' hphase hplan hsettings hsel hm' hf =>
    exact .failed l' cause m' hphase (hplan.trans aplan) (hsettings.trans asettings) hsel (fun e he => hm' e (hm e he)) hf
  | loaded l' m' hlocal hphase hplan hsettings hsel hm' =>
    exact .loaded l' m' (aphase ▸ hlocal) hphase (hplan.trans astaged) hsettings hsel fun e he => hm' e (hm e he)

section
variable {s : State}

theorem State.LoadStep.loadFailed (s : State) (cause : Cause) (position : FailurePosition) (event : ConfigEvent) :
    s.LoadStep (s.loadFailed cause position event) :=
  .failed _ cause (({ s.mgmt with config := s.mgmt.config.record event } : Mgmt).raise .failsafe) rfl rfl rfl rfl
    (fun _ he => Mgmt.flag_raise_of_flag (m := { s.mgmt with config := s.mgmt.config.record event }) he _)
    (Mgmt.flag_raise_self _ _)

theorem State.LoadStep.headerRead (hb : s.blocksReset) (d : List Byte) : s.LoadStep (s.headerRead d) := by
  simp only [State.headerRead, State.failRange_eq hb, State.failLoad_eq hb]
  split_ifs
  · exact .loadFailed ..
  · exact .loadFailed ..
  · exact .loadFailed ..
  · exact .loadFailed ..
  · exact .reading _ s.mgmt (by simp [Loader.startRead]) rfl rfl (.inl rfl) (by simp [Loader.startRead]) fun _ he => he

theorem State.LoadStep.planRead (hb : s.blocksReset) (d : List Byte) : s.LoadStep (s.planRead d) := by
  have hv : (s.modLoader fun l => { l with planDigest := storedDigest d }).blocksReset := hb
  simp only [State.planRead, State.failDigest_eq hb, State.failRange_eq hv]
  split_ifs with hdigest
  · exact .loadFailed ..
  · cases hfirst : firstFailure (planChecks d) with
    | some o =>
      refine .of_agrees (l := { s.loader with planDigest := storedDigest d }) (m := s.mgmt) ⟨rfl, rfl, rfl, rfl, rfl⟩
        (fun _ he => he) (.loadFailed ..)
    | none =>
      exact .reading _ s.mgmt (by simp [Loader.startRead]) rfl rfl (.inl rfl) (fun _ => .inl (planOf_valid hfirst))
        fun _ he => he

theorem State.LoadStep.localRead (hb : s.blocksReset) (hphase : s.loader.phase = .localPhase) (d : List Byte) :
    s.LoadStep (s.localRead d) := by
  simp only [State.localRead, State.failDigest_eq hb, State.failRange_eq hb, State.completeLoad_eq hb]
  split_ifs with hdigest
  · exact .loadFailed ..
  · cases hfirst : firstFailure (localChecks d s.own s.loader.stagedPlan.targets) with
    | some o => exact .loadFailed ..
    | none =>
      have hfields (o : Nat) : ¬ localFieldOut d s.own s.loader.stagedPlan.targets o := fun ho =>
        (firstFailure_eq_none_iff _).mp hfirst o ((failsAt_localChecks d _ _ o).mpr ho)
      exact .loaded _ { s.mgmt with mask := (settingsOf d).eventMask, checkMode := (settingsOf d).checkMode } hphase rfl rfl
        (settingsOf_valid hfields) rfl fun _ he => he

theorem State.LoadStep.sectionRead (hb : s.blocksReset) (hphase : s.loader.phase ≠ .idle) (d : List Byte) :
    s.LoadStep (s.sectionRead d) := by
  unfold State.sectionRead
  split
  · exact .headerRead hb d
  · exact .planRead hb d
  · exact .localRead hb ‹_› d
  · exact absurd ‹_› hphase

theorem State.LoadStep.takeGranule (hb : s.blocksReset) (hphase : s.loader.phase ≠ .idle) (data : BitVec 64) :
    s.LoadStep (s.takeGranule data) := by
  unfold State.takeGranule
  refine .of_agrees (l := { s.loader with data := s.loader.data ++ granuleBytes data }) (m := s.mgmt)
    ⟨rfl, rfl, rfl, rfl, rfl⟩ (fun _ he => he) ?_
  dsimp only
  split_ifs
  · exact .sectionRead (s := { s with loader := { s.loader with data := s.loader.data ++ granuleBytes data } }) hb hphase _
  · exact .reading _ s.mgmt hphase rfl rfl (.inr rfl) (fun hl => .inr ⟨hl, rfl⟩) fun _ he => he

/-- A granule of a load in flight, in a station at rest. -/
theorem State.LoadStep.readGranule (hb : s.blocksReset) (hphase : s.loader.phase ≠ .idle) (o : GranuleOutcome) :
    s.LoadStep (s.readGranule o) := by
  cases o with
  | clean data => exact .takeGranule hb hphase data
  | corrected data =>
    exact .of_agrees (l := { s.loader with corrections := satInc 15 s.loader.corrections })
      (m := { s.mgmt.raise .cfgFix with config := s.mgmt.config.record (.corrected s.loader.granule) })
      ⟨rfl, rfl, rfl, rfl, rfl⟩ (fun _ he => Mgmt.flag_raise_of_flag he .cfgFix)
      (.takeGranule (s := s.countCorrection) hb hphase data)
  | double =>
    rw [State.readGranule, State.failLoad_eq hb]
    exact .loadFailed ..

end

/-! ### Stations at rest and just loaded -/

/-- A station just loaded: its timer runs, its record is sized to the plan, and every other block rests (R16, R61). -/
structure State.JustLoaded (u : State) : Prop where
  station : u.ctl.station = .listening
  sbi : u.sbi = { Sbi.reset with running := true }
  census : u.census = Census.reset
  alloc : u.alloc = { Alloc.reset with standing := Record.sized u.plan }
  store : u.store = Store.reset
  meter : u.meter = Meter.reset
  monitors : u.monitors = Vector.replicate 4 Monitor.reset
  queue : u.ctl.queue = []

/-- A reset leaves every block at its reset values, in Booting (R12). -/
theorem State.ResetTo.blocksReset {s t : State} (h : s.ResetTo t) : t.ctl.station = .booting ∧ t.blocksReset := by
  cases h <;> exact ⟨rfl, rfl, rfl, rfl, rfl, rfl, rfl, rfl, rfl, rfl, rfl, rfl, rfl⟩

/-- An invariant of the blocks is kept by a step if it holds of every station at rest and of one just loaded, and every move
in service keeps it. -/
theorem step_keeps {P : State → Prop} {s t : State} (hrest : RestInv s) (hstep : step s = .next t)
    (hP : ∀ rest, P { s with pending := rest })
    (hquiet : ∀ u : State, observes u.ctl.station = false → u.blocksReset → P u)
    (hloaded : ∀ u : State, u.JustLoaded → P u)
    (hstill : ∀ (u : State) (m : Mgmt) (sent : List LinkMessage), P u → P { u with mgmt := m, sent := sent })
    (hmove : ∀ {A : Prop} (u v : State), observes s.ctl.station = true → observes u.ctl.station = true →
      u.loader = s.loader → Move A u v → P u → P v) : P t := by
  obtain ⟨A, rest, heffect⟩ := step_effect hrest hstep
  cases heffect with
  | reset h =>
    obtain ⟨hboot, hblocks⟩ := h.blocksReset
    exact hquiet t (by rw [hboot]; rfl) hblocks
  | still m sent h => exact hstill _ m sent (hP rest)
  | serves ho h => exact h.keeps ho (hP rest) fun u v hu hl => hmove u v ho hu hl
  | loads g hphase hr =>
    obtain ⟨hboot, hblocks⟩ := hrest.blocksReset hphase
    have hout : observes s.ctl.station = false := by rw [hboot]; rfl
    have hload := State.LoadStep.readGranule (s := { s with pending := rest }) hblocks hphase (checkGranule g)
    obtain ⟨hsbi, hcensus, halloc, hstore, hmeter, hmonitors, hplan, hsettings, hctl⟩ := hblocks
    generalize State.readGranule { s with pending := rest } (checkGranule g) = t at hload
    cases hload with
    | reading l m _ hp hs =>
      exact hquiet _ hout ⟨hsbi, hcensus, halloc, hstore, hmeter, hmonitors, hp.trans hplan, hs.trans hsettings, hctl⟩
    | failed l cause m _ hp hs =>
      exact hquiet _ rfl ⟨hsbi, hcensus, halloc, hstore, hmeter, hmonitors, hp.trans hplan, hs.trans hsettings, hctl⟩
    | loaded l m =>
      exact hloaded _ ⟨rfl, congrArg (fun b : Sbi => { b with running := true }) hsbi, hcensus,
        congrArg (fun a : Alloc => { a with standing := Record.sized l.plan }) halloc, hstore, hmeter, hmonitors, hctl.1⟩

end Sys2Proof.Machine

/-! PROOF. The invariants of the load, and every invariant at reset. -/

namespace Sys2Proof.Machine

open Sys2Proof

/-! ### The invariants of the load -/

section
variable {s t : State}

/-- A reset leaves a load in flight, its first read begun unless RESET is low (R2, R12). -/
theorem State.ResetTo.load (h : s.ResetTo t) :
    t.loader.phase = .header ∧ t.loader.cfgSelected = !t.resetLow := by
  cases h <;> exact ⟨rfl, rfl⟩

theorem State.ResetTo.invariants (h : s.ResetTo t) : RestInv t ∧ LoadedInv t ∧ PortInv t := by
  obtain ⟨hboot, hblocks⟩ := h.blocksReset
  obtain ⟨hphase, hsel⟩ := h.load
  refine ⟨⟨fun _ => hboot, fun _ => hblocks⟩, ⟨fun ho => ?_, fun hl => ?_⟩, ?_, ?_, t.cfgClockHeldLow_iff⟩
  · rw [hboot] at ho
    exact absurd ho (by decide)
  · rw [hphase] at hl
    exact absurd hl (by decide)
  · simp [hphase, hboot]
  · simp [hsel, hboot]

/-- The moves in service touch neither the loader nor the RESET pin. -/
theorem State.Evolves.invariants {A : Prop} (h : s.Evolves A t) (ho : observes s.ctl.station = true) (hloaded : LoadedInv s)
    (hport : PortInv s) : RestInv t ∧ LoadedInv t ∧ PortInv t := by
  obtain ⟨⟨-, hloader, hreset⟩, hobs⟩ := h.frame ho
  have hs : s.ctl.station ≠ .booting := by
    rintro hb
    rw [hb] at ho
    exact absurd ho (by decide)
  have ht : t.ctl.station ≠ .booting := by
    rintro hb
    rw [hb] at hobs
    exact absurd hobs (by decide)
  obtain ⟨hphase, hsel, -⟩ := hport
  have hidle : s.loader.phase = .idle := not_not.mp (mt hphase.mp hs)
  have hhigh : s.loader.cfgSelected ≠ true := fun h => hs (hsel.mp h).1
  refine ⟨⟨fun h => absurd (hloader ▸ hidle) h, fun h => ?_⟩, ⟨fun _ => ?_, fun h => ?_⟩, ⟨fun h => ?_, fun h => absurd h ht⟩,
    ⟨fun h => ?_, fun h => absurd h.1 ht⟩, t.cfgClockHeldLow_iff⟩
  · rw [hobs] at h
    exact absurd h (by decide)
  · have hvalid := hloaded.1 ho
    simpa only [State.plan, State.settings, hloader] using hvalid
  · rw [hloader, hidle] at h
    exact absurd h (by decide)
  · exact absurd (hloader ▸ hidle) h
  · exact absurd (hloader ▸ h) hhigh

/-- What a granule leaves: a load going on in Booting, or none in Failsafe or in Listening. -/
theorem State.LoadStep.invariants (h : s.LoadStep t) (hphase : s.loader.phase ≠ .idle) (hreset : s.resetLow = false)
    (hrest : RestInv s) (hloaded : LoadedInv s) (hport : PortInv s) : RestInv t ∧ LoadedInv t ∧ PortInv t := by
  obtain ⟨hboot, hsbi, hcensus, halloc, hstore, hmeter, hmonitors, hplan, hsettings, hctl⟩ := hrest.blocksReset hphase
  cases h with
  | reading l m hl hp hs hsel hstaged hm =>
    have hselected : l.cfgSelected = true := hsel.elim id fun h => h.trans (hport.2.1.mpr ⟨hboot, hreset⟩)
    refine ⟨⟨fun _ => hboot, fun _ => ⟨hsbi, hcensus, halloc, hstore, hmeter, hmonitors, hp.trans hplan,
      hs.trans hsettings, hctl⟩⟩, ⟨fun ho => ?_, fun hlocal => ?_⟩, ⟨fun _ => hboot, fun _ => hl⟩,
      ⟨fun _ => ⟨hboot, hreset⟩, fun _ => hselected⟩, State.cfgClockHeldLow_iff _⟩
    · have hout : observes s.ctl.station = true := ho
      rw [hboot] at hout
      exact absurd hout (by decide)
    · exact (hstaged hlocal).elim id fun ⟨h1, h2⟩ => h2 ▸ hloaded.2 h1
  | failed l cause m hl hp hs hsel hm hf =>
    refine ⟨⟨fun h => absurd hl h, fun _ => ⟨hsbi, hcensus, halloc, hstore, hmeter, hmonitors, hp.trans hplan,
      hs.trans hsettings, hctl⟩⟩, ⟨fun ho => absurd ho (by simp [observes]), fun h => ?_⟩,
      ⟨fun h => absurd hl h, fun h => absurd h (by simp)⟩,
      ⟨fun h => absurd (hsel.symm.trans h) (by simp), fun h => absurd h.1 (by simp)⟩, State.cfgClockHeldLow_iff _⟩
    exact absurd (hl.symm.trans h) (by simp)
  | loaded l m hlocal hl hp hs hsel hm =>
    have hstaged : l.plan.valid := hp ▸ hloaded.2 hlocal
    refine ⟨⟨fun h => absurd hl h, fun ho => absurd ho (by simp [observes])⟩, ⟨fun _ => ⟨hstaged, hs⟩, fun h => ?_⟩,
      ⟨fun h => absurd hl h, fun h => absurd h (by simp)⟩,
      ⟨fun h => absurd (hsel.symm.trans h) (by simp), fun h => absurd h.1 (by simp)⟩, State.cfgClockHeldLow_iff _⟩
    exact absurd (hl.symm.trans h) (by simp)

end

/-- Settles O54: a reset begins a load, a granule continues or ends it, and nothing else touches the loader. -/
theorem loadInvariantsAreKept : Obligations.LoadInvariantsAreKept := by
  intro s t hrest hloaded hport hstep
  obtain ⟨A, rest, heffect⟩ := step_effect hrest hstep
  cases heffect with
  | reset h => exact h.invariants
  | still m sent h => exact ⟨hrest, hloaded, hport⟩
  | serves ho h => exact h.invariants ho hloaded hport
  | loads g hphase hreset =>
    have hblocks : ({ s with pending := rest } : State).blocksReset := (hrest.blocksReset hphase).2
    exact (State.LoadStep.readGranule hblocks hphase _).invariants hphase hreset hrest hloaded hport

end Sys2Proof.Machine

/-! PROOF. The invariants of the SBI, the lines, the Directive Queue and the pacer: each is kept by every move (R19, R21, R22,
R24, R35, R36, R115, R151, R154). -/

namespace Sys2Proof.Machine

open Sys2Proof

/-! ### The SBI -/

section
variable {A : Prop} {u v : State}

theorem Move.sbiInv (h : Move A u v) (hu : SbiInv u) : SbiInv v := by
  obtain ⟨htimer, hclash⟩ := hu
  cases h with
  | time d =>
    refine ⟨Sbi.passTime_le _ _ _ htimer, ?_⟩
    simp only [State.passTime_sbi, Sbi.passTime]
    split_ifs <;> exact hclash
  | faults f h => rw [State.setFaults_eq]; exact ⟨htimer, hclash⟩
  | sbi b h => exact ⟨h.timer.trans htimer, h.clash.trans (max_le hclash le_rfl)⟩
  | _ => exact ⟨htimer, hclash⟩

/-- Time takes the phase to Stalled from nowhere, and keeps it there; it makes no station Unaligned. -/
theorem Phase.after_stalled (n : Nat) : Phase.after .stalled n = .stalled := rfl

theorem Phase.after_eq_unaligned {p : Phase} {n : Nat} (h : p.after n = .unaligned) : p = .unaligned := by
  unfold Phase.after at h
  split at h <;> first | exact h | (split_ifs at h)

theorem Sbi.passTime_faults (b : Sbi) (limit d : Nat) : (b.passTime limit d).faults = b.faults := by
  unfold Sbi.passTime
  split_ifs <;> rfl

theorem Sbi.passTime_phase (b : Sbi) (limit d : Nat) :
    (b.passTime limit d).phase = b.phase ∨ ∃ n, (b.passTime limit d).phase = b.phase.after n := by
  unfold Sbi.passTime
  split_ifs
  · exact .inr ⟨_, rfl⟩
  · exact .inl rfl

theorem Move.phaseInv (h : Move A u v) (ho : observes u.ctl.station = true) (hu : PhaseInv u) : PhaseInv v := by
  obtain ⟨hstuck, hunaligned⟩ := hu
  cases h with
  | time d =>
    obtain hp | ⟨n, hp⟩ := u.sbi.passTime_phase u.epochBitTimes d
    · exact ⟨fun hf => hp.trans (hstuck (u.sbi.passTime_faults _ d ▸ hf)), fun _ h => hunaligned ho (hp.symm.trans h)⟩
    · refine ⟨fun hf => ?_, fun _ h => hunaligned ho (Phase.after_eq_unaligned (hp.symm.trans h))⟩
      exact hp.trans (by rw [hstuck (u.sbi.passTime_faults _ d ▸ hf), Phase.after_stalled])
  | faults f h =>
    rw [State.setFaults_eq]
    exact ⟨fun hf => (h hf).elim hstuck id, fun _ => hunaligned ho⟩
  | sbi b h =>
    refine ⟨fun hf => ?_, fun _ hp => ?_⟩
    · have hf' : u.sbi.faults.syncLow = true := h.faults ▸ hf
      have hstalled := hstuck hf'
      obtain hp | ⟨-, hp | hp | hp⟩ := h.phase
      · exact hp.trans hstalled
      · exact hp
      · exact absurd hstalled hp
      · exact absurd (hf'.symm.trans hp) (by simp)
    · obtain hsame | ⟨hne, -⟩ := h.phase
      · exact hunaligned ho (hsame.symm.trans hp)
      · exact absurd hp hne
  | ctl c h hq => exact ⟨hstuck, fun _ hp => h.trans (hunaligned ho hp)⟩
  | enter st m h =>
    obtain ⟨-, hst, -⟩ := h
    refine ⟨hstuck, fun _ hp => hst.elim id fun haligned => ?_⟩
    obtain hne | hne | hlow := haligned
    · exact absurd (hunaligned ho hp) hne
    · exact absurd hp hne
    · exact absurd ((hstuck hlow).symm.trans hp) (by simp)
  | _ => exact ⟨hstuck, fun _ => hunaligned ho⟩

/-! ### The lines -/

/-- The entry to a state releases what the state does not permit (R19). -/
theorem Sbi.releaseFor_readback (b : Sbi) (st : StationState) (h : (b.releaseFor st).readback = .driving) :
    permitsFrame st (b.releaseFor st).txBuffer = true := by
  have hcut : b.cutShort ≠ .driving := by
    unfold Sbi.cutShort
    split_ifs <;> simp
  by_cases hd : b.readback = .driving
  · simp only [Sbi.releaseFor, hd, if_true] at h ⊢
    match hx : b.txBuffer with
    | none => rfl
    | some (.notice n) =>
      by_contra hne
      rw [hx] at h
      exact hcut ((if_neg hne).symm.trans h)
    | some (.directive r) =>
      by_contra hne
      rw [hx] at h
      exact hcut ((if_neg fun hst => hne (by simp [permitsFrame, hst])).symm.trans h)
  · simp only [Sbi.releaseFor, hd, if_false] at h

theorem Move.linesInv (h : Move A u v) (hu : LinesInv u) : LinesInv v := by
  obtain ⟨hsync, hveto, hframe⟩ := hu
  cases h with
  | time d =>
    simp only [LinesInv, State.passTime_sbi, State.passTime_ctl, Sbi.passTime]
    split_ifs <;> exact ⟨hsync, hveto, hframe⟩
  | faults f h => rw [State.setFaults_eq]; exact ⟨hsync, hveto, hframe⟩
  | sbi b h =>
    refine ⟨fun hd => ?_, fun hd => ?_, fun hd => ?_⟩
    · exact h.sync.elim (absurd · hd) fun h => h.elim hsync id
    · exact h.veto.elim (fun h => absurd (h.symm.trans hd) (by simp)) fun h => h.elim hveto id
    · obtain hr | ⟨hr, hx⟩ | hp := h.readback
      · exact absurd hd hr
      · exact (congrArg (permitsFrame u.ctl.station) hx).trans (hframe hr)
      · exact hp
  | ctl c h hq =>
    simp only [LinesInv, h]
    exact ⟨hsync, hveto, hframe⟩
  | enter st m h =>
    refine ⟨fun hd => ?_, fun hd => ?_, u.sbi.releaseFor_readback st⟩
    · by_contra hne
      exact hd (u.sbi.releaseFor_syncDrive st (by simpa using hne))
    · by_contra hne
      exact absurd (hd.symm.trans (u.sbi.releaseFor_vetoDrive st hne)) (by simp)
  | _ => exact ⟨hsync, hveto, hframe⟩

/-! ### The Directive Queue -/

theorem Move.directiveInv (h : Move A u v) (hu : DirectiveInv u) : DirectiveInv v := by
  obtain ⟨hlength, hout⟩ := hu
  cases h with
  | faults f h => rw [State.setFaults_eq]; exact ⟨hlength, hout⟩
  | ctl c h hq =>
    refine ⟨hq.elim (·.trans hlength) (·.2), fun hst => ?_⟩
    simp only [h] at hst
    obtain hq | ⟨hactive, -⟩ := hq
    · rw [hout hst, List.length_nil, Nat.le_zero, List.length_eq_zero_iff] at hq
      exact hq
    · simp [hactive] at hst
  | enter st m h =>
    obtain ⟨hobs, -, hempty⟩ := h
    refine ⟨hlength, fun hst => ?_⟩
    have hst' : st = .quiet ∨ st = .fenced ∨ st = .excluded ∨ st = .failsafe ∨ st = .booting := hst
    obtain hst | hst | hst | rfl | rfl := hst'
    · exact hempty (.inl hst)
    · exact hempty (.inr (.inl hst))
    · exact hempty (.inr (.inr hst))
    · exact absurd hobs (by decide)
    · exact absurd hobs (by decide)
  | _ => exact ⟨hlength, hout⟩

/-! ### The pacer -/

/-- Nothing is granted to a station that does not release (R149). -/
theorem State.reloadGrant_of_not_releases {s : State} (h : releases s.ctl.station = false) (q : Fin 12) :
    s.reloadGrant q = 0 := by
  cases hst : s.ctl.station <;> simp_all [releases, State.reloadGrant]

theorem reloaded_nonpos {leftover : Int} (h : leftover ≤ 0) (percent bank : Nat) :
    reloaded percent 0 bank leftover ≤ 0 := by
  unfold reloaded
  split_ifs <;> omega

theorem State.CreditMove.nonpos {s : State} {q : Fin 12} {c : Int} (h : s.CreditMove q c)
    (hst : releases s.ctl.station = false) (hq : s.meter.credits[q] ≤ 0) : c ≤ 0 := by
  cases h with
  | kept => exact hq
  | reload =>
    rw [State.reloadGrant_of_not_releases hst]
    exact reloaded_nonpos hq _ _

/-- A state in service that does not release drops its credit at its entry (R151). -/
theorem Meter.enter_nonpos {st : StationState} (hst : releases st = false) (ho : observes st = true) (m : Meter)
    (q : Fin 12) : (m.enter st).credits[q] ≤ 0 := by
  have hdrops : dropsCredit st = true := by cases st <;> simp_all [releases, observes, dropsCredit]
  simp [Meter.enter, hst, hdrops]

theorem Meter.passTime_running_credits (m : Meter) (d : Nat) :
    (m.passTime d).running = m.running ∧ (m.passTime d).credits = m.credits := by
  unfold Meter.passTime
  split_ifs <;> exact ⟨rfl, rfl⟩

theorem Move.meterInv (h : Move A u v) (hu : MeterInv u) : MeterInv v := by
  obtain ⟨hrunning, hcredits⟩ := hu
  cases h with
  | time d =>
    obtain ⟨hr, hc⟩ := u.meter.passTime_running_credits d
    refine ⟨hr.trans hrunning, fun hst q => ?_⟩
    simpa only [State.passTime_meter, hc] using hcredits hst q
  | faults f h => rw [State.setFaults_eq]; exact ⟨hrunning, hcredits⟩
  | ctl c h hq =>
    simp only [MeterInv, h]
    exact ⟨hrunning, hcredits⟩
  | enter st m h => exact ⟨u.meter.enter_running st, fun hst q => Meter.enter_nonpos hst h.1 u.meter q⟩
  | meter m h hr => exact ⟨hr.trans hrunning, fun hst q => (h q).nonpos hst (hcredits hst q)⟩
  | release q d rest hq hc =>
    exact ⟨hrunning, fun hst => absurd (hcredits hst q) (not_le.mpr hc)⟩
  | _ => exact ⟨hrunning, hcredits⟩

end

/-- Settles O55: each of the five holds at rest and just after a load, and every move keeps it. -/
theorem linesQueueAndPacerFollowTheState : Obligations.LinesQueueAndPacerFollowTheState := by
  intro s t hrest hsbi hphase hlines hdirective hmeter hstep
  refine ⟨?_, ?_, ?_, ?_, ?_⟩
  · refine step_keeps hrest hstep (fun _ => hsbi) (fun u _ hb => ?_) (fun u hl => ?_) (fun _ _ _ h => h) fun u v _ _ _ h => h.sbiInv
    · obtain ⟨h, -⟩ := hb
      simp [SbiInv, h, Sbi.reset]
    · simp [SbiInv, hl.sbi, Sbi.reset]
  · refine step_keeps hrest hstep (fun _ => hphase) (fun u ho hb => ?_) (fun u hl => ?_) (fun _ _ _ h => h) fun u v _ hu _ h => h.phaseInv hu
    · obtain ⟨h, -⟩ := hb
      simp [PhaseInv, h, Sbi.reset, LineFaults.none, ho]
    · simp [PhaseInv, hl.sbi, Sbi.reset, LineFaults.none, hl.station]
  · refine step_keeps hrest hstep (fun _ => hlines) (fun u _ hb => ?_) (fun u hl => ?_) (fun _ _ _ h => h) fun u v _ _ _ h => h.linesInv
    · obtain ⟨h, -⟩ := hb
      simp [LinesInv, h, Sbi.reset]
    · simp [LinesInv, hl.sbi, Sbi.reset]
  · refine step_keeps hrest hstep (fun _ => hdirective) (fun u _ hb => ?_) (fun u hl => ?_)
      (fun _ _ _ h => h) fun u v _ _ _ h => h.directiveInv
    · obtain ⟨-, -, -, -, -, -, -, -, hqueue, -⟩ := hb
      simp [DirectiveInv, hqueue]
    · simp [DirectiveInv, hl.queue]
  · refine step_keeps hrest hstep (fun _ => hmeter) (fun u ho hb => ?_) (fun u hl => ?_) (fun _ _ _ h => h) fun u v _ _ _ h => h.meterInv
    · obtain ⟨-, -, -, -, h, -⟩ := hb
      have hreleases : releases u.ctl.station = false := by cases hst : u.ctl.station <;> simp_all [releases, observes]
      simp [MeterInv, h, Meter.reset, hreleases]
    · simp [MeterInv, hl.meter, Meter.reset, hl.station, releases]

end Sys2Proof.Machine

/-! PROOF. The Peer Table and the Pressure Monitors: what a move writes into an entry or a monitor leaves it consistent (R46,
R47, R49, R126, R127, R129). -/

namespace Sys2Proof.Machine

open Sys2Proof

/-! ### The Peer Table -/

theorem PeerEntry.consistent_reset (limit : Nat) (k : StationNo) : PeerEntry.reset.consistent limit k := by
  simp [PeerEntry.consistent, PeerEntry.reset]

section
variable {e : PeerEntry} {limit : Nat} {k : StationNo}

/-- A miss of a serving entry holds it, or ends it at the miss limit (R49). -/
theorem PeerEntry.consistent_miss (hcount : e.missCount < limit) (hserving : e.status.any NoticeStatus.serving = true)
    (hsender : ∀ n ∈ e.contents, n.sender = k) : (e.miss limit).consistent limit k := by
  unfold PeerEntry.miss
  split_ifs with hlimit
  · exact ⟨fun _ => rfl, fun h => absurd h (by simp), fun h => absurd h (by simp), hsender⟩
  · exact ⟨fun h => absurd rfl h, fun _ => ⟨Nat.le_add_left 1 _, Nat.lt_of_le_of_ne hcount hlimit, hserving⟩,
      fun h => absurd h (by simp), hsender⟩

/-- A silent slot keeps an entry consistent (R49). -/
theorem PeerEntry.consistent_silent (hlimit : 1 ≤ limit) (h : e.consistent limit k) :
    (e.silent limit).consistent limit k := by
  obtain ⟨hzero, hheld, hheard, hsender⟩ := id h
  unfold PeerEntry.silent
  split
  · exact h
  next hstate =>
    obtain ⟨-, hlt, hserving⟩ := hheld hstate
    exact PeerEntry.consistent_miss hlt hserving hsender
  next hstate =>
    have h0 : e.missCount = 0 := hzero (by simp [hstate])
    split_ifs with hserving
    · exact PeerEntry.consistent_miss (by omega) hserving hsender
    · exact ⟨fun _ => h0, fun h => absurd h (by simp), fun h => absurd h (by simp), hsender⟩

end

theorem State.PeerMove.consistent {s : State} {k : StationNo} {e : PeerEntry} (h : s.PeerMove k e)
    (hlimit : 1 ≤ s.plan.missLimit) (hs : PeersInv s) : e.consistent s.plan.missLimit k := by
  obtain ⟨hentries, hown⟩ := hs
  cases h with
  | kept => exact hentries k
  | cleared => exact PeerEntry.consistent_reset _ k
  | silent => exact PeerEntry.consistent_silent hlimit (hentries k)
  | heard n seq hsender =>
    have hk : n.sender = k := hsender.elim id fun ⟨hx, hk⟩ => by
      simp only [Sbi.sendsAs, hx, beq_iff_eq] at hown
      exact hown.trans hk.symm
    exact ⟨fun _ => rfl, fun h => absurd h (by simp), fun _ => rfl, fun m hm => Option.some.inj hm ▸ hk⟩

theorem Move.peersInv {A : Prop} {u v : State} (h : Move A u v) (hlimit : 1 ≤ u.plan.missLimit) (hu : PeersInv u) : PeersInv v := by
  obtain ⟨hentries, hown⟩ := id hu
  cases h with
  | time d =>
    refine ⟨hentries, ?_⟩
    simp only [State.passTime_sbi, Sbi.passTime]
    split_ifs <;> exact hown
  | faults f h => rw [State.setFaults_eq]; exact hu
  | sbi b h =>
    refine ⟨hentries, h.frame.elim (fun hx => ?_) id⟩
    have hsame : b.sendsAs u.own = u.sbi.sendsAs u.own := by rw [Sbi.sendsAs, Sbi.sendsAs, hx]
    exact hsame.trans hown
  | census c h => exact ⟨fun k => (h k).consistent hlimit hu, hown⟩
  | _ => exact hu

/-- Settles O56: an entry is consistent at reset, and every move that writes one leaves it so. -/
theorem peerTableStaysConsistent : Obligations.PeerTableStaysConsistent := by
  intro s t hrest hloaded hpeers hstep
  have hreset (k : StationNo) : Census.reset.entry k = PeerEntry.reset := by simp [Census.entry, Census.reset]
  refine step_keeps hrest hstep (fun _ => hpeers) (fun u _ hb => ?_) (fun u hl => ?_) (fun _ _ _ h => h) fun u v ho _ hl h => ?_
  · obtain ⟨hsbi, hcensus, -⟩ := hb
    exact ⟨fun k => by rw [hcensus, hreset]; exact PeerEntry.consistent_reset _ k, by rw [hsbi]; rfl⟩
  · exact ⟨fun k => by rw [hl.census, hreset]; exact PeerEntry.consistent_reset _ k, by rw [hl.sbi]; rfl⟩
  · obtain ⟨⟨-, -, -, -, ⟨hmiss, -⟩, -⟩, -⟩ := hloaded.1 ho
    refine h.peersInv ?_
    rw [State.plan, hl]
    exact hmiss

/-! ### The monitors -/

theorem Monitor.consistent_reset (debounce : Nat) : Monitor.reset.consistent debounce := by
  simp [Monitor.consistent, Monitor.reset]

section
variable {m : Monitor} {th : Thresholds}

theorem Monitor.consistent_endMask {d : Nat} (hd : 1 ≤ d) (h : m.consistent d) : (m.endMask d).consistent d := by
  obtain ⟨hmasked, -⟩ := id h
  unfold Monitor.endMask
  split_ifs with hm hcount
  · obtain ⟨hhigh, hlow, hmarks⟩ := hmasked hm
    exact ⟨by simp, by simp, fun _ => ⟨rfl, hd, hmarks⟩, by simp⟩
  · obtain ⟨hhigh, hlow, hmarks⟩ := hmasked hm
    exact ⟨by simp, fun _ => ⟨Nat.lt_of_le_of_ne hhigh hcount, hlow, hmarks⟩, by simp, by simp⟩
  · exact h

theorem Monitor.consistent_mark {d : Nat} (h : m.consistent d) : m.mark.consistent d := by
  obtain ⟨hmasked, hclear, hpressed, hstale⟩ := id h
  unfold Monitor.mark
  split_ifs with hfour
  · simp [Monitor.consistent]
  · have hfew : satInc 4 m.marks < 4 := Nat.lt_of_le_of_ne (satInc_le 4 _) hfour
    refine ⟨fun hs => ?_, fun hs => ?_, fun hs => ?_, fun hs => ?_⟩
    · obtain ⟨h1, h2, -⟩ := hmasked hs
      exact ⟨h1, h2, hfew⟩
    · obtain ⟨h1, h2, -⟩ := hclear hs
      exact ⟨h1, h2, hfew⟩
    · obtain ⟨h1, h2, -⟩ := hpressed hs
      exact ⟨h1, h2, hfew⟩
    · obtain ⟨-, -, hmarks⟩ := hstale hs
      rw [hmarks] at hfour
      exact absurd rfl hfour

theorem Monitor.consistent_read (hd : 1 ≤ th.debounce) (n : Nat) (h : m.consistent th.debounce) :
    (m.read th n).consistent th.debounce := by
  obtain ⟨hmasked, hclear, hpressed, -⟩ := id h
  cases hs : m.state with
  | masked =>
    obtain ⟨-, hlow, -⟩ := hmasked hs
    rw [Monitor.read_of_masked th n hs]
    split_ifs
    · simp [Monitor.consistent, hs, hlow, satInc_le]
    · exact ⟨by simp, fun _ => ⟨hd, hlow, Nat.zero_lt_succ 3⟩, by simp, by simp⟩
  | clear =>
    obtain ⟨-, hlow, -⟩ := hclear hs
    rw [Monitor.read_of_clear th n hs]
    split_ifs with hhigh hcount
    · exact ⟨by simp, by simp, fun _ => ⟨rfl, hd, Nat.zero_lt_succ 3⟩, by simp⟩
    · simp only [Monitor.consistent, hs]
      exact ⟨by simp, fun _ => ⟨Nat.lt_of_not_le hcount, hlow, Nat.zero_lt_succ 3⟩, by simp, by simp⟩
    · simp only [Monitor.consistent, hs]
      exact ⟨by simp, fun _ => ⟨hd, hlow, Nat.zero_lt_succ 3⟩, by simp, by simp⟩
  | pressed =>
    obtain ⟨hhigh, -, -⟩ := hpressed hs
    rw [Monitor.read_of_pressed th n hs]
    split_ifs with hlow hcount
    · exact ⟨by simp, fun _ => ⟨hd, rfl, Nat.zero_lt_succ 3⟩, by simp, by simp⟩
    · simp only [Monitor.consistent, hs]
      exact ⟨by simp, by simp, fun _ => ⟨hhigh, Nat.lt_of_not_le hcount, Nat.zero_lt_succ 3⟩, by simp⟩
    · simp only [Monitor.consistent, hs]
      exact ⟨by simp, by simp, fun _ => ⟨hhigh, hd, Nat.zero_lt_succ 3⟩, by simp⟩
  | stale =>
    rw [Monitor.read_of_stale th n hs]
    exact ⟨by simp, fun _ => ⟨hd, rfl, Nat.zero_lt_succ 3⟩, by simp, by simp⟩

theorem MonitorMove.consistent {m' : Monitor} (h : MonitorMove th m m') (hd : 1 ≤ th.debounce)
    (hm : m.consistent th.debounce) : m'.consistent th.debounce := by
  cases h with
  | kept => exact hm
  | masked => simp [Monitor.consistent]
  | endMask => exact Monitor.consistent_endMask hd hm
  | mark => exact Monitor.consistent_mark hm
  | read n => exact Monitor.consistent_read hd n hm

end

theorem Move.monitorsInv {A : Prop} {u v : State} (h : Move A u v) (hd : ∀ t : Fin 4, 1 ≤ u.settings.monitors[t].debounce)
    (hu : MonitorsInv u) : MonitorsInv v := by
  cases h with
  | faults f h => rw [State.setFaults_eq]; exact hu
  | monitors w m h hm hs =>
    intro t
    have hmove := h t
    have hcons := hu t
    cases huse : inUse u t with
    | true =>
      rw [if_pos huse] at hmove hcons
      have hin : inUse { u with monitors := w, mgmt := m } t = true := huse
      rw [if_pos hin]
      exact hmove.consistent (hd t) hcons
    | false =>
      have hout : ¬ inUse { u with monitors := w, mgmt := m } t = true := by
        have hsame : inUse { u with monitors := w, mgmt := m } t = inUse u t := rfl
        rw [hsame, huse]
        exact Bool.false_ne_true
      rw [if_neg (by simp [huse])] at hmove hcons
      rw [if_neg hout]
      exact hmove.trans hcons
  | _ => exact hu

theorem monitorsInv_of_reset {u : State} (h : u.monitors = Vector.replicate 4 Monitor.reset) : MonitorsInv u := by
  intro t
  have ht : u.monitors[t] = Monitor.reset := by simp [h]
  rw [ht]
  split_ifs
  · exact Monitor.consistent_reset _
  · rfl

/-- Settles O58: a monitor is consistent at reset, and every move that writes one in use leaves it so. -/
theorem monitorsStayConsistent : Obligations.MonitorsStayConsistent := by
  intro s t hrest hloaded hmonitors hstep
  refine step_keeps hrest hstep (fun _ => hmonitors) (fun u _ hb => ?_) (fun u hl => monitorsInv_of_reset hl.monitors)
      (fun _ _ _ h => h) fun u v ho _ hl h => ?_
  · obtain ⟨-, -, -, -, -, h, -⟩ := hb
    exact monitorsInv_of_reset h
  · obtain ⟨-, -, -, -, -, -, -, hthresholds, -⟩ := hloaded.1 ho
    refine h.monitorsInv fun t => ?_
    rw [State.settings, hl]
    exact (hthresholds t).2.2.1

end Sys2Proof.Machine

/-! PROOF. The Descriptor Store and the credit counters: no move takes them past their bounds (R135, R140 to R142, R145,
R148, R149). -/

namespace Sys2Proof.Machine

open Sys2Proof

/-! ### What the store holds -/

theorem flatten_set_append_perm {α : Type} (a : α) :
    ∀ (L : List (List α)) (i : Nat) (h : i < L.length), (L.set i (L[i] ++ [a])).flatten.Perm (a :: L.flatten)
  | l :: L, 0, _ => by simp
  | l :: L, i + 1, h => by
    have ih := flatten_set_append_perm a L i (Nat.lt_of_succ_lt_succ h)
    exact (List.Perm.append_left l ih).trans List.perm_middle

theorem flatten_set_tail_sublist {α : Type} :
    ∀ (L : List (List α)) (i : Nat) (h : i < L.length), (L.set i L[i].tail).flatten.Sublist L.flatten
  | l :: L, 0, _ => (List.tail_sublist l).append_right L.flatten
  | l :: L, i + 1, h => (flatten_set_tail_sublist L i (Nat.lt_of_succ_lt_succ h)).append_left l

section
variable (st : Store)

/-- A record appended to a queue is held beside the others. -/
theorem Store.held_take (d : Descriptor) : (st.take d).held.Perm (d :: st.held) := by
  have hlt : (queueIndex d.target d.cls).val < st.queues.toList.length := by simp
  have h := flatten_set_append_perm d st.queues.toList _ hlt
  rw [Vector.getElem_toList] at h
  simpa only [Store.held, Store.take, Vector.toList_set, Fin.getElem_fin] using h

/-- The head of a queue released leaves the other records in their order. -/
theorem Store.held_release (q : Fin 12) (d : Descriptor) : (st.release q d).held.Sublist st.held := by
  have hlt : q.val < st.queues.toList.length := by simp
  have h := flatten_set_tail_sublist st.queues.toList _ hlt
  rw [Vector.getElem_toList] at h
  simpa only [Store.held, Store.release, Vector.toList_set, Fin.getElem_fin] using h

theorem Store.held_ageing (limit : Nat) : (st.ageing limit).held =
    (st.held.filter fun d => d.age != limit).map fun d => { d with age := d.age + 1 } := by
  simp only [Store.held, Store.ageing, Vector.toList_map, List.filter_flatten, List.map_flatten, List.map_map]
  rfl

theorem Store.held_ageing_tags (limit : Nat) :
    ((st.ageing limit).held.map (·.tag)).Sublist (st.held.map (·.tag)) := by
  rw [Store.held_ageing, List.map_map]
  exact List.filter_sublist.map _

theorem Store.queues_take_self (d : Descriptor) :
    (st.take d).queues[queueIndex d.target d.cls] = st.queues[queueIndex d.target d.cls] ++ [d] := by
  simp [Store.take]

theorem Store.queues_take_ne (d : Descriptor) {q : Fin 12} (h : q ≠ queueIndex d.target d.cls) :
    (st.take d).queues[q] = st.queues[q] := by
  have hne : (queueIndex d.target d.cls).val ≠ q.val := fun hq => h (Fin.ext hq.symm)
  simp [Store.take, hne]

theorem Store.arrivals_take_le (d : Descriptor) {q : Fin 12} (h : st.arrivals[q] ≤ 65535) :
    (st.take d).arrivals[q] ≤ 65535 := by
  simp only [Store.take, Fin.getElem_fin, Vector.getElem_set]
  split_ifs
  · exact Nat.min_le_right _ _
  · exact h

theorem Store.queues_release (q p : Fin 12) (d : Descriptor) :
    ((st.release q d).queues[p]).Sublist st.queues[p] := by
  simp only [Store.release, Fin.getElem_fin, Vector.getElem_set]
  split_ifs with h
  · simp only [← h]
    exact List.tail_sublist _
  · exact List.Sublist.refl _

theorem Store.history_release (q : Fin 12) (d : Descriptor) (h : st.history.length ≤ 64) :
    (st.release q d).history.length ≤ 64 := by
  have h64 : Config.historyLength = 64 := rfl
  simp only [Store.release, List.length_append, List.length_singleton]
  split_ifs with hroom
  · exact h64 ▸ hroom
  · rw [List.length_tail]
    omega

theorem Store.queues_ageing (limit : Nat) (q : Fin 12) : (st.ageing limit).queues[q] =
    (st.queues[q].filter fun d => d.age != limit).map fun d => { d with age := d.age + 1 } := by
  simp [Store.ageing]

end

/-! ### The offers that are taken -/

/-- What the checks of an offer that is taken have found (R137). -/
theorem offeredDescriptor_valid {targets : Nat} {tag : Tag} {target cls : Byte} {length : BitVec 16} {d : Descriptor}
    (h : offeredDescriptor targets tag target cls length = some d) :
    d.target.val < targets ∧ 64 ≤ d.length ∧ d.length ≤ 9216 ∧ d.cells = cellsOf d.length ∧ d.age = 0 := by
  unfold offeredDescriptor at h
  split at h
  · exact absurd h (by simp)
  · split_ifs at h with h4 hfields
    obtain rfl := Option.some.inj h
    obtain ⟨ht, hlow, hhigh⟩ := hfields
    exact ⟨ht, hlow, hhigh, rfl, rfl⟩

theorem State.judgeOffer_taken {s : State} {tag : Tag} {target cls : Byte} {length : BitVec 16} {d : Descriptor}
    (h : s.judgeOffer tag target cls length = .taken d) :
    (d.target.val < s.plan.targets ∧ 64 ≤ d.length ∧ d.length ≤ 9216 ∧ d.cells = cellsOf d.length ∧ d.age = 0)
      ∧ s.store.hasTag d.tag = false ∧ s.store.heldCount < 512
      ∧ s.store.queues[queueIndex d.target d.cls].length < s.settings.queueLimits[queueIndex d.target d.cls] := by
  unfold State.judgeOffer at h
  split at h
  · exact absurd h (by simp)
  · split at h
    · exact absurd h (by simp)
    next d' hd =>
      unfold State.roomVerdict at h
      dsimp only at h
      split_ifs at h with hpercent htag hfull hqueue
      obtain rfl := OfferVerdict.taken.inj h
      exact ⟨offeredDescriptor_valid hd, by simpa using htag, Nat.lt_of_not_le hfull, Nat.lt_of_not_le hqueue⟩

/-! ### The bounds of the store -/

/-- A queue within its limit, its records valid. -/
def State.QueueWithin (s : State) (q : Fin 12) (l : List Descriptor) : Prop :=
  l.length ≤ s.settings.queueLimits[q] ∧ ∀ d ∈ l, d.valid s q

theorem State.QueueWithin.sublist {s : State} {q : Fin 12} {l l' : List Descriptor} (h : s.QueueWithin q l)
    (hsub : l'.Sublist l) : s.QueueWithin q l' :=
  ⟨hsub.length_le.trans h.1, fun d hd => h.2 d (hsub.subset hd)⟩

/-- The bounds of a store under a station's limits (R135, R140, R142). -/
def State.StoreWithin (s : State) (st : Store) : Prop :=
  st.heldCount ≤ 512 ∧ (st.held.map (·.tag)).Nodup ∧ st.history.length ≤ 64
    ∧ ∀ q : Fin 12, s.QueueWithin q st.queues[q] ∧ st.arrivals[q] ≤ 65535 ∧ st.previous[q] ≤ 65535

theorem storeInv_iff (s : State) : StoreInv s ↔ s.StoreWithin s.store := by
  simp only [StoreInv, State.StoreWithin, State.QueueWithin]
  exact and_congr_right fun _ => and_congr_right fun _ => and_congr_right fun _ =>
    forall_congr' fun q => ⟨fun ⟨h1, h2, h3, h4⟩ => ⟨⟨h1, h4⟩, h2, h3⟩, fun ⟨⟨h1, h4⟩, h2, h3⟩ => ⟨h1, h2, h3, h4⟩⟩

section
variable {s : State} {st : Store}

/-- A record that a mark leaves is one mark older, and no older than the age limit (R145). -/
theorem State.QueueWithin.ageing {q : Fin 12} {l : List Descriptor} (h : s.QueueWithin q l) :
    s.QueueWithin q ((l.filter fun d => d.age != s.settings.ageLimit).map fun d => { d with age := d.age + 1 }) := by
  refine ⟨?_, fun d hd => ?_⟩
  · rw [List.length_map]
    exact (List.length_filter_le _ _).trans h.1
  · obtain ⟨e, he, rfl⟩ := List.mem_map.mp hd
    obtain ⟨hmem, hage⟩ := List.mem_filter.mp he
    obtain ⟨hq, ht, hlow, hhigh, hcells, hle⟩ := h.2 e hmem
    exact ⟨hq, ht, hlow, hhigh, hcells, Nat.lt_of_le_of_ne hle (by simpa using hage)⟩

theorem State.StoreWithin.take {tag : Tag} {target cls : Byte} {length : BitVec 16} {d : Descriptor}
    (h : s.StoreWithin s.store) (hd : s.judgeOffer tag target cls length = .taken d) : s.StoreWithin (s.store.take d) := by
  obtain ⟨hcount, hnodup, hhistory, hqueues⟩ := h
  obtain ⟨⟨ht, hlow, hhigh, hcells, hage⟩, htag, hroom, hlimit⟩ := State.judgeOffer_taken hd
  have hperm := s.store.held_take d
  refine ⟨hperm.length_eq.trans_le hroom, ?_, hhistory, fun q => ?_⟩
  · rw [(hperm.map _).nodup_iff, List.map_cons, List.nodup_cons]
    refine ⟨fun hmem => ?_, hnodup⟩
    obtain ⟨e, he, hte⟩ := List.mem_map.mp hmem
    rw [(s.store.hasTag_iff d.tag).mpr ⟨e, he, hte⟩] at htag
    exact absurd htag (by simp)
  · obtain ⟨⟨hlen, hvalid⟩, harrivals, hprevious⟩ := hqueues q
    refine ⟨?_, s.store.arrivals_take_le d harrivals, hprevious⟩
    by_cases hq : q = queueIndex d.target d.cls
    · subst hq
      rw [Store.queues_take_self]
      refine ⟨by simpa using hlimit, fun e he => ?_⟩
      obtain he | he := List.mem_append.mp he
      · exact hvalid e he
      · obtain rfl := List.mem_singleton.mp he
        exact ⟨rfl, ht, hlow, hhigh, hcells, by omega⟩
    · rw [Store.queues_take_ne _ _ hq]
      exact ⟨hlen, hvalid⟩

theorem State.StoreWithin.release {q : Fin 12} (h : s.StoreWithin st) (d : Descriptor) : s.StoreWithin (st.release q d) := by
  obtain ⟨hcount, hnodup, hhistory, hqueues⟩ := h
  have hsub := st.held_release q d
  refine ⟨hsub.length_le.trans hcount, (hsub.map _).nodup hnodup, st.history_release q d hhistory, fun p => ?_⟩
  obtain ⟨hwithin, harrivals⟩ := hqueues p
  exact ⟨hwithin.sublist (st.queues_release q p d), harrivals⟩

theorem State.StoreWithin.shift (h : s.StoreWithin st) : s.StoreWithin st.shift := by
  obtain ⟨hcount, hnodup, hhistory, hqueues⟩ := h
  refine ⟨hcount, hnodup, hhistory, fun q => ?_⟩
  obtain ⟨hwithin, harrivals, -⟩ := hqueues q
  exact ⟨hwithin, by simp [Store.shift], harrivals⟩

theorem State.StoreWithin.ageing (h : s.StoreWithin st) : s.StoreWithin (st.ageing s.settings.ageLimit) := by
  obtain ⟨hcount, hnodup, hhistory, hqueues⟩ := h
  refine ⟨?_, (st.held_ageing_tags _).nodup hnodup, hhistory, fun q => ?_⟩
  · rw [Store.heldCount, Store.held_ageing, List.length_map]
    exact (List.length_filter_le _ _).trans hcount
  · obtain ⟨hwithin, harrivals⟩ := hqueues q
    rw [Store.queues_ageing]
    exact ⟨hwithin.ageing, harrivals⟩

theorem State.StoreWithin.removeTag (h : s.StoreWithin st) (tag : Tag) : s.StoreWithin (st.removeTag tag) := by
  obtain ⟨hcount, hnodup, hhistory, hqueues⟩ := h
  have hsub : (st.removeTag tag).held.Sublist st.held := by
    rw [Store.held_removeTag]
    exact List.filter_sublist
  refine ⟨hsub.length_le.trans hcount, (hsub.map _).nodup hnodup, hhistory, fun q => ?_⟩
  obtain ⟨hwithin, harrivals⟩ := hqueues q
  refine ⟨?_, harrivals⟩
  rw [Store.queues_removeTag]
  exact hwithin.sublist List.filter_sublist

theorem State.StoreWithin.empty (h : s.StoreWithin st) : s.StoreWithin st.empty := by
  obtain ⟨hcount, hnodup, hhistory, hqueues⟩ := h
  refine ⟨by simp [Store.heldCount], by simp, hhistory, fun q => ?_⟩
  obtain ⟨hwithin, harrivals⟩ := hqueues q
  have hnil : st.empty.queues[q] = [] := by simp [Store.empty]
  exact ⟨hnil ▸ hwithin.sublist (List.nil_sublist _), harrivals⟩

theorem State.StoreMove.within (h : s.StoreMove st) (hs : s.StoreWithin s.store) : s.StoreWithin st := by
  cases h with
  | take tag target cls length d hd => exact hs.take hd
  | removeTag tag => exact hs.removeTag tag
  | ageing => exact hs.ageing
  | shift => exact hs.shift
  | empty => exact hs.empty

/-- A frame of 64 to 9,216 bytes costs 1 to 72 cells (R135). -/
theorem cellsOf_bounds {n : Nat} (hlow : 64 ≤ n) (hhigh : n ≤ 9216) : 1 ≤ cellsOf n ∧ cellsOf n ≤ 72 := by
  unfold cellsOf
  omega

theorem StoreInv.cells (h : StoreInv s) {d : Descriptor} (hd : d ∈ s.store.held) : 1 ≤ d.cells ∧ d.cells ≤ 72 := by
  obtain ⟨-, -, -, hqueues⟩ := h
  obtain ⟨l, hl, hdl⟩ := List.mem_flatten.mp hd
  obtain ⟨i, hi, rfl⟩ := Vector.mem_iff_getElem.mp (Vector.mem_toList_iff.mp hl)
  obtain ⟨-, -, -, hvalid⟩ := hqueues ⟨i, hi⟩
  obtain ⟨-, -, hlow, hhigh, hcells, -⟩ := hvalid d hdl
  exact hcells ▸ cellsOf_bounds hlow hhigh

end

theorem Move.storeInv {A : Prop} {u v : State} (h : Move A u v) (hu : StoreInv u) : StoreInv v := by
  cases h with
  | faults f h => rw [State.setFaults_eq]; exact hu
  | store st h => exact (storeInv_iff _).mpr (h.within ((storeInv_iff u).mp hu))
  | release q d rest hq hc => exact (storeInv_iff _).mpr (((storeInv_iff u).mp hu).release d)
  | _ => exact hu

/-! ### The bounds of the credit counters -/

/-- The credit counters are within −71 and 65,535 (R148). -/
def Meter.within (m : Meter) : Prop := ∀ q : Fin 12, -71 ≤ m.credits[q] ∧ m.credits[q] ≤ 65535

theorem reloaded_within {c : Int} (h : -71 ≤ c) (percent grant bank : Nat) :
    -71 ≤ reloaded percent grant bank c ∧ reloaded percent grant bank c ≤ 65535 := by
  unfold reloaded
  split_ifs <;> omega

theorem Meter.within_enter {m : Meter} (h : m.within) (st : StationState) : (m.enter st).within := by
  intro q
  obtain ⟨hlow, hhigh⟩ := h q
  unfold Meter.enter
  split_ifs
  · exact ⟨hlow, hhigh⟩
  · simp only [Fin.getElem_fin, Vector.getElem_map]
    simp only [Fin.getElem_fin] at hlow
    omega
  · exact ⟨hlow, hhigh⟩

theorem Move.meter_within {A : Prop} {u v : State} (h : Move A u v) (hs : StoreInv u) (hu : u.meter.within) : v.meter.within := by
  cases h with
  | time d =>
    intro q
    obtain ⟨-, hc⟩ := u.meter.passTime_running_credits d
    simpa only [State.passTime_meter, hc] using hu q
  | faults f h => rw [State.setFaults_eq]; exact hu
  | enter st m h => exact Meter.within_enter hu st
  | meter m h hr =>
    intro q
    obtain ⟨hlow, hhigh⟩ := hu q
    have hq := h q
    generalize m.credits[q] = c at hq
    cases hq with
    | kept => exact ⟨hlow, hhigh⟩
    | reload => exact reloaded_within hlow _ _ _
  | release q d rest hq hc =>
    obtain ⟨-, hcells⟩ := hs.cells ((u.store.queue_sublist_held q).subset (hq ▸ List.mem_cons_self))
    intro p
    obtain ⟨hlow, hhigh⟩ := hu p
    obtain ⟨-, hhighq⟩ := hu q
    simp only [Fin.getElem_fin, Vector.getElem_set]
    split_ifs
    · simp only [Fin.getElem_fin] at hc hhighq
      omega
    · exact ⟨hlow, hhigh⟩
  | _ => exact hu

theorem storeInv_of_reset {u : State} (h : u.store = Store.reset) : StoreInv u := by
  simp [StoreInv, h, Store.reset, Store.heldCount, Store.held]

theorem meter_within_of_reset {u : State} (h : u.meter = Meter.reset) : u.meter.within := by
  simp [Meter.within, h, Meter.reset]

/-- Settles O59: each move keeps the bounds of the store, and with them those of the credit that frames are charged to. -/
theorem storeAndCreditStayWithinTheirBounds : Obligations.StoreAndCreditStayWithinTheirBounds := by
  intro s t hrest hstore hcredit hstep
  have hboth : StoreInv t ∧ t.meter.within := by
    refine step_keeps (P := fun u => StoreInv u ∧ u.meter.within) hrest hstep (fun _ => ⟨hstore, hcredit.1⟩)
      (fun u _ hb => ?_) (fun u hl => ⟨storeInv_of_reset hl.store, meter_within_of_reset hl.meter⟩)
      (fun _ _ _ h => h) fun u v _ _ _ h hu => ⟨h.storeInv hu.1, h.meter_within hu.1 hu.2⟩
    obtain ⟨-, -, -, hst, hm, -⟩ := hb
    exact ⟨storeInv_of_reset hst, meter_within_of_reset hm⟩
  exact ⟨hboth.1, hboth.2, fun d hd => hboth.1.cells hd⟩

end Sys2Proof.Machine

/-! PROOF. The condition flags (R41, R111, R130, R166): what raises a condition raises its flag, and no command clears a flag
whose condition holds. And every invariant at reset. -/

namespace Sys2Proof.Machine

open Sys2Proof

/-! ### The condition flags -/

theorem flagsInv_iff (s : State) : FlagsInv s ↔
    (s.sbi.faults.any = true → s.mgmt.flag .line = true) ∧ (s.ctl.station = .excluded → s.mgmt.flag .excluded = true)
      ∧ (s.ctl.station = .fenced → s.mgmt.flag .fenced = true)
      ∧ ((∃ t, inUse s t = true ∧ s.monitors[t].state = .stale) → s.mgmt.flag .stale = true)
      ∧ (s.ctl.station = .failsafe → s.mgmt.flag .failsafe = true) := by
  have hstale : s.condition .stale = true ↔ ∃ t, inUse s t = true ∧ s.monitors[t].state = .stale := by
    simp only [State.condition, List.any_eq_true, mem_allTargets, true_and, Bool.and_eq_true, beq_iff_eq]
  simp only [FlagsInv, List.forall_mem_cons, List.not_mem_nil, false_implies, implies_true, and_true, hstale]
  simp only [State.condition, beq_iff_eq]

section
variable {A : Prop} {u v : State}

theorem Move.flagsInv (h : Move A u v) (hu : FlagsInv u) : FlagsInv v := by
  obtain ⟨hline, hexcluded, hfenced, hstale, hfailsafe⟩ := (flagsInv_iff u).mp hu
  cases h with
  | report m sent h => exact fun e he hc => h e (hu e he hc) hc
  | time d =>
    refine (flagsInv_iff _).mpr ⟨fun hf => hline ?_, hexcluded, hfenced, hstale, hfailsafe⟩
    rwa [State.passTime_sbi, Sbi.passTime_faults] at hf
  | faults f h =>
    rw [State.setFaults_eq]
    refine (flagsInv_iff _).mpr ⟨fun hf => ?_, fun hs => Mgmt.flag_raiseIf_of_flag (hexcluded hs) _ _,
      fun hs => Mgmt.flag_raiseIf_of_flag (hfenced hs) _ _, fun hs => Mgmt.flag_raiseIf_of_flag (hstale hs) _ _,
      fun hs => Mgmt.flag_raiseIf_of_flag (hfailsafe hs) _ _⟩
    have hf' : f.any = true := hf
    change (u.mgmt.raiseIf _ _).flag _ = true
    rw [Mgmt.flag_raiseIf_self]
    cases ha : u.sbi.faults.any with
    | true => simp [hline ha]
    | false => simp [hf']
  | sbi b h =>
    refine (flagsInv_iff _).mpr ⟨fun hf => hline ?_, hexcluded, hfenced, hstale, hfailsafe⟩
    exact h.faults ▸ hf
  | ctl c h hq =>
    exact (flagsInv_iff _).mpr ⟨hline, fun hs => hexcluded (h.symm.trans hs), fun hs => hfenced (h.symm.trans hs), hstale,
      fun hs => hfailsafe (h.symm.trans hs)⟩
  | enter st m h hm hf he =>
    refine (flagsInv_iff _).mpr ⟨fun h => hm _ (hline h), he, hf, fun h => hm _ (hstale h), fun hs => ?_⟩
    have hst : st = .failsafe := hs
    exact absurd h.1 (by simp [hst, observes])
  | monitors w m h hm hs =>
    refine (flagsInv_iff _).mpr ⟨fun h => hm _ (hline h), fun h => hm _ (hexcluded h), fun h => hm _ (hfenced h), ?_,
      fun h => hm _ (hfailsafe h)⟩
    rintro ⟨t, huse, hst⟩
    exact (hs t huse hst).elim (fun hold => hm _ (hstale ⟨t, huse, hold⟩)) id
  | _ => exact (flagsInv_iff _).mpr ⟨hline, hexcluded, hfenced, hstale, hfailsafe⟩

/-- A station whose lines and monitors rest has no condition but that of its state. -/
theorem flagsInv_of_reset (hfaults : u.sbi.faults = LineFaults.none)
    (hmonitors : u.monitors = Vector.replicate 4 Monitor.reset) (hexcluded : u.ctl.station ≠ .excluded)
    (hfenced : u.ctl.station ≠ .fenced) (hfailsafe : u.ctl.station = .failsafe → u.mgmt.flag .failsafe = true) :
    FlagsInv u := by
  refine (flagsInv_iff u).mpr ⟨fun h => ?_, fun h => absurd h hexcluded, fun h => absurd h hfenced, ?_, hfailsafe⟩
  · rw [hfaults] at h
    exact absurd h (by decide)
  · rintro ⟨t, -, hst⟩
    simp [hmonitors, Monitor.reset] at hst

end

/-- Settles O60: a reset leaves no condition, a load that fails sets its flag, and every move in service keeps the flags of
the conditions that hold. -/
theorem conditionFlagsFollowTheirConditions : Obligations.ConditionFlagsFollowTheirConditions := by
  intro s t hrest hflags hstep
  obtain ⟨A, rest, heffect⟩ := step_effect hrest hstep
  cases heffect with
  | reset h =>
    obtain ⟨hboot, hsbi, -, -, -, -, hmonitors, -⟩ := h.blocksReset
    exact flagsInv_of_reset (by rw [hsbi]; rfl) hmonitors (by simp [hboot]) (by simp [hboot]) (by simp [hboot])
  | still m sent h => exact fun e he hc => h e (hflags e he hc) hc
  | serves ho h => exact h.keeps ho hflags fun u v _ _ hm => hm.flagsInv
  | loads g hphase hreset =>
    obtain ⟨hboot, hblocks⟩ := hrest.blocksReset hphase
    have hload := State.LoadStep.readGranule (s := { s with pending := rest }) hblocks hphase (checkGranule g)
    obtain ⟨hsbi, -, -, -, -, hmonitors, -⟩ := hblocks
    have hfaults : s.sbi.faults = LineFaults.none := by rw [hsbi]; rfl
    generalize State.readGranule { s with pending := rest } (checkGranule g) = t at hload
    cases hload with
    | reading l m => exact flagsInv_of_reset hfaults hmonitors (by simp [hboot]) (by simp [hboot]) (by simp [hboot])
    | failed l cause m _ _ _ _ _ hf => exact flagsInv_of_reset hfaults hmonitors (by simp) (by simp) fun _ => hf
    | loaded l m => exact flagsInv_of_reset hfaults hmonitors (by simp) (by simp) (by simp)

/-! ### Every invariant at reset -/

/-- Settles O53: the reset values, block by block. -/
theorem invariantsHoldAtReset : Obligations.InvariantsHoldAtReset := by
  have hreset : State.reset.ResetTo State.reset := .started .power 0
  obtain ⟨hrest, hloaded, hport⟩ := hreset.invariants
  have hentry (k : StationNo) : State.reset.census.entry k = PeerEntry.reset := by
    simp [State.reset, Census.entry, Census.reset]
  have hbounded : State.reset.alloc.standing.bounded State.reset.plan :=
    ⟨rfl, fun t => Nat.zero_le _, fun pg hpg => absurd hpg (by simp [Record.cells, State.reset, Alloc.reset, Record.reset])⟩
  refine ⟨hrest, hloaded, hport, ⟨Nat.zero_le _, Nat.zero_le _⟩, ⟨fun h => ?_, fun h => ?_⟩, ?_, ?_,
    ⟨fun k => (hentry k).symm ▸ PeerEntry.consistent_reset _ k, rfl⟩, ?_, ⟨hbounded, fun r hr => ?_⟩,
    ⟨Nat.zero_le _, fun _ => rfl⟩, monitorsInv_of_reset rfl, storeInv_of_reset rfl, ⟨meter_within_of_reset rfl, fun d hd => ?_⟩,
    ⟨rfl, fun _ q => ?_⟩, flagsInv_of_reset rfl rfl (by decide) (by decide) (by decide)⟩
  · exact absurd h (by decide)
  · exact absurd h (by decide)
  · simp [SettleInv, State.reset, Alloc.reset]
  · simp [LinesInv, State.reset, Sbi.reset]
  · simp [VoidInv, originPair, State.reset, Alloc.reset, Record.reset]
  · exact absurd hr (by simp [State.reset, Alloc.reset])
  · exact (storeInv_of_reset rfl : StoreInv State.reset).cells hd
  · simp [State.reset, Meter.reset]

end Sys2Proof.Machine

/-! PROOF. The grants of one tier as lists (R68 to R71): what the floor step, the share rounds and the residue walk give, place
by place and in the sum. -/

namespace Sys2Proof.Machine

open Sys2Proof

/-! ### Amounts served in order -/

@[simp] theorem servedInOrder_length (available : Nat) (amounts : List Nat) :
    (servedInOrder available amounts).length = amounts.length := by
  simp [servedInOrder]

theorem servedInOrder_getElem (available : Nat) (amounts : List Nat) (i : Nat)
    (h : i < (servedInOrder available amounts).length) :
    (servedInOrder available amounts)[i] =
      min (amounts[i]'(by simpa using h)) (available - (amounts.take i).sum) := by
  simp [servedInOrder]

theorem servedInOrder_sum (available : Nat) (amounts : List Nat) :
    (servedInOrder available amounts).sum = min available amounts.sum := by
  induction amounts generalizing available with
  | nil => simp [servedInOrder]
  | cons a amounts ih =>
    rw [servedInOrder_cons, List.sum_cons, List.sum_cons, ih]
    omega

/-! ### Share rounds -/

/-- The floor step's amount at a place (R69). -/
def Cell.atFirst (c : Cell) : Nat := min c.place.floor c.want

/-- Grants of a tier's places within their wants and the capacity that is left. -/
structure GrantsWithin (available : Nat) (places : List Cell) (grants : List Nat) : Prop where
  length : grants.length = places.length
  le_want : ∀ (i : Nat) (hi : i < grants.length) (hj : i < places.length), grants[i] ≤ places[i].want
  sum_le : grants.sum ≤ available

/-- The weights of the places that are below their wants (R70). -/
def shortWeights (places : List Cell) (grants : List Nat) : Nat :=
  (((places.zip grants).filter fun p => decide (p.2 < p.1.want)).map (·.1.place.weight)).sum

section
variable {available : Nat} {places : List Cell} {grants : List Nat}

theorem afterShareRound_getElem (i : Nat)
    (hi : i < (afterShareRound available places grants).length) (hp : i < places.length) (hg : i < grants.length) :
    (afterShareRound available places grants)[i] = grants[i] + min (places[i].want - grants[i])
      ((available - grants.sum) * places[i].place.weight / shortWeights places grants) := by
  simp [afterShareRound, shortWeights]

theorem afterShareRound_length (h : grants.length = places.length) :
    (afterShareRound available places grants).length = places.length := by
  simp [afterShareRound, h]

/-- Shares by weight of what is left never add up to more than it (R70). -/
theorem sum_shares_le (total weights : Nat) (ws : List Nat) (h : ws.sum ≤ weights) :
    (ws.map fun w => total * w / weights).sum ≤ total := by
  have hsum : (ws.map fun w => total * w / weights).sum ≤ total * ws.sum / weights := by
    induction ws with
    | nil => simp
    | cons w ws ih =>
      have hrest := ih (le_trans (by simp) h)
      rw [List.map_cons, List.sum_cons, List.sum_cons, Nat.mul_add]
      exact (Nat.add_le_add_left hrest _).trans (Nat.div_add_div_le_add_div)
  refine hsum.trans (Nat.div_le_of_le_mul ?_)
  rw [Nat.mul_comm weights]
  exact Nat.mul_le_mul_left total h

/-- The unmet wants that a share round serves, place by place. -/
theorem sum_afterShareRound_pairs (total weights : Nat) (pairs : List (Cell × Nat)) :
    (pairs.map fun p => p.2 + min (p.1.want - p.2) (total * p.1.place.weight / weights)).sum ≤
      (pairs.map (·.2)).sum + (((pairs.filter fun p => decide (p.2 < p.1.want)).map fun p : Cell × Nat =>
        total * p.1.place.weight / weights)).sum := by
  induction pairs with
  | nil => simp
  | cons p pairs ih =>
    rw [List.map_cons, List.sum_cons, List.map_cons, List.sum_cons]
    by_cases hshort : p.2 < p.1.want
    · rw [List.filter_cons_of_pos (by simpa using hshort), List.map_cons, List.sum_cons]
      have := Nat.min_le_right (p.1.want - p.2) (total * p.1.place.weight / weights)
      omega
    · rw [List.filter_cons_of_neg (by simpa using hshort)]
      have hmet : p.1.want - p.2 = 0 := by omega
      rw [hmet, Nat.zero_min]
      omega

theorem GrantsWithin.afterShareRound (h : GrantsWithin available places grants) :
    GrantsWithin available places (afterShareRound available places grants) := by
  obtain ⟨hlength, hwant, hsum⟩ := h
  have hlen := afterShareRound_length (available := available) hlength
  refine ⟨hlen, fun i hi hj => ?_, ?_⟩
  · have hg : i < grants.length := hlength ▸ hj
    have := hwant i hg hj
    rw [afterShareRound_getElem i hi hj hg]
    omega
  · have hpairs := sum_afterShareRound_pairs (available - grants.sum) (shortWeights places grants) (places.zip grants)
    have hshares := sum_shares_le (available - grants.sum) (shortWeights places grants)
      (((places.zip grants).filter fun p => decide (p.2 < p.1.want)).map (·.1.place.weight)) le_rfl
    have hgrants : (places.zip grants).map (·.2) = grants := List.map_snd_zip hlength.le
    rw [List.map_map] at hshares
    rw [hgrants] at hpairs
    refine hpairs.trans ?_
    have hcomp : (((places.zip grants).filter fun p => decide (p.2 < p.1.want)).map fun p : Cell × Nat =>
        (available - grants.sum) * p.1.place.weight / shortWeights places grants).sum ≤ available - grants.sum := hshares
    omega

theorem GrantsWithin.le_afterShareRound (h : GrantsWithin available places grants) (i : Nat) (hg : i < grants.length)
    (hi : i < (Machine.afterShareRound available places grants).length) :
    grants[i] ≤ (Machine.afterShareRound available places grants)[i] := by
  rw [afterShareRound_getElem i hi (h.length ▸ hg) hg]
  exact Nat.le_add_right _ _

end

/-! ### The grants of a tier -/

section
variable (available : Nat) (places : List Cell)

/-- The grants after the floor step and some share rounds. -/
def roundGrants (n : Nat) : List Nat :=
  (afterShareRound available places)^[n] (servedInOrder available (places.map Cell.atFirst))

theorem roundGrants_succ (n : Nat) :
    roundGrants available places (n + 1) = afterShareRound available places (roundGrants available places n) :=
  Function.iterate_succ_apply' _ _ _

theorem roundGrants_within (n : Nat) : GrantsWithin available places (roundGrants available places n) := by
  induction n with
  | zero =>
    refine ⟨by simp [roundGrants], fun i hi hj => ?_, ?_⟩
    · simp only [roundGrants, Function.iterate_zero, id, servedInOrder_getElem, List.getElem_map, Cell.atFirst]
      omega
    · simp only [roundGrants, Function.iterate_zero, id, servedInOrder_sum]
      omega
  | succ n ih => exact roundGrants_succ available places n ▸ ih.afterShareRound

theorem roundGrants_length (n : Nat) : (roundGrants available places n).length = places.length :=
  (roundGrants_within available places n).length

theorem roundGrants_mono {m n : Nat} (h : m ≤ n) (i : Nat) (hi : i < places.length) :
    (roundGrants available places m)[i]'(by rwa [roundGrants_length]) ≤
      (roundGrants available places n)[i]'(by rwa [roundGrants_length]) := by
  induction n, h using Nat.le_induction with
  | base => exact le_rfl
  | succ n _ ih =>
    refine ih.trans ?_
    have hstep := (roundGrants_within available places n).le_afterShareRound i (by rwa [roundGrants_length])
      (by rw [← roundGrants_succ]; rwa [roundGrants_length])
    simpa only [roundGrants_succ] using hstep

/-- The wants that the share rounds leave unmet. -/
def unmetWants : List Nat := List.zipWith (fun c g => c.want - g) places (roundGrants available places 4)

theorem tierGrants_eq : tierGrants available places = List.zipWith (· + ·) (roundGrants available places 4)
    (servedInOrder (available - (roundGrants available places 4).sum) (unmetWants available places)) := rfl

theorem unmetWants_length : (unmetWants available places).length = places.length := by
  simp [unmetWants, roundGrants_length]

@[simp] theorem tierGrants_length : (tierGrants available places).length = places.length := by
  simp [tierGrants_eq, roundGrants_length, unmetWants_length]

theorem tierGrants_getElem (i : Nat) (hi : i < places.length) :
    (tierGrants available places)[i]'(by simpa using hi) =
      (roundGrants available places 4)[i]'(by rwa [roundGrants_length])
        + min (places[i].want - (roundGrants available places 4)[i]'(by rwa [roundGrants_length]))
          (available - (roundGrants available places 4).sum - ((unmetWants available places).take i).sum) := by
  simp [tierGrants_eq, servedInOrder_getElem, unmetWants]

/-- No place gets more than its want (R71). -/
theorem tierGrants_le_want (i : Nat) (hi : i < places.length) :
    (tierGrants available places)[i]'(by simpa using hi) ≤ places[i].want := by
  have := (roundGrants_within available places 4).le_want i (by rwa [roundGrants_length]) hi
  rw [tierGrants_getElem available places i hi]
  omega

theorem sum_zipWith_add (a b : List Nat) (h : a.length = b.length) :
    (List.zipWith (· + ·) a b).sum = a.sum + b.sum := by
  induction a generalizing b with
  | nil => simp [List.length_eq_zero_iff.mp h.symm]
  | cons x a ih =>
    cases b with
    | nil => simp at h
    | cons y b =>
      rw [List.zipWith_cons_cons, List.sum_cons, List.sum_cons, List.sum_cons, ih b (Nat.succ.inj h)]
      omega

/-- The sum of a tier's grants: the residue walk serves what is unmet, as far as what is left reaches (R71). -/
theorem tierGrants_sum : (tierGrants available places).sum = (roundGrants available places 4).sum
    + min (available - (roundGrants available places 4).sum) (unmetWants available places).sum := by
  rw [tierGrants_eq, sum_zipWith_add _ _ (by simp [roundGrants_length, unmetWants_length]), servedInOrder_sum]

theorem tierGrants_sum_le : (tierGrants available places).sum ≤ available := by
  have := (roundGrants_within available places 4).sum_le
  rw [tierGrants_sum]
  omega

/-- A want unmet leaves nothing (R71). -/
theorem tierGrants_sum_of_unmet (i : Nat) (hi : i < places.length)
    (h : (tierGrants available places)[i]'(by simpa using hi) < places[i].want) :
    (tierGrants available places).sum = available := by
  have hsum := (roundGrants_within available places 4).sum_le
  have hi' : i < (unmetWants available places).length := by rwa [unmetWants_length]
  have hunmet : (unmetWants available places)[i] =
      places[i].want - (roundGrants available places 4)[i]'(by rwa [roundGrants_length]) := by simp [unmetWants]
  have htake : ((unmetWants available places).take i).sum + (unmetWants available places)[i]
      ≤ (unmetWants available places).sum := by
    have hsplit := congrArg List.sum (List.take_append_drop i (unmetWants available places))
    rw [List.drop_eq_getElem_cons hi', List.sum_append, List.sum_cons] at hsplit
    omega
  rw [tierGrants_getElem available places i hi] at h
  rw [tierGrants_sum]
  omega

/-- The floors are served in plan order, and nothing later takes from them (R69). -/
theorem le_tierGrants (i : Nat) (hi : i < places.length) :
    min places[i].atFirst (available - ((places.take i).map Cell.atFirst).sum) ≤
      (tierGrants available places)[i]'(by simpa using hi) := by
  have hmono := roundGrants_mono available places (Nat.zero_le 4) i hi
  have hfirst : (roundGrants available places 0)[i]'(by rwa [roundGrants_length]) =
      min places[i].atFirst (available - ((places.take i).map Cell.atFirst).sum) := by
    simp only [roundGrants, Function.iterate_zero, id, servedInOrder_getElem, List.getElem_map, List.map_take]
  rw [tierGrants_getElem available places i hi, ← hfirst]
  omega

/-- Where the floors are all served, each place gets its weight's share of the rest at least (R70). -/
theorem le_tierGrants_of_floors (h : (places.map Cell.atFirst).sum ≤ available) (i : Nat) (hi : i < places.length) :
    places[i].atFirst + min (places[i].want - places[i].atFirst)
        ((available - (places.map Cell.atFirst).sum) * places[i].place.weight
          / ((places.filter fun c => decide (c.atFirst < c.want)).map (·.place.weight)).sum)
      ≤ (tierGrants available places)[i]'(by simpa using hi) := by
  have hfirst : roundGrants available places 0 = places.map Cell.atFirst := by
    refine List.ext_getElem (by simp [roundGrants_length]) fun j h1 h2 => ?_
    have htake : ((places.map Cell.atFirst).take j).sum + (places.map Cell.atFirst)[j]
        ≤ (places.map Cell.atFirst).sum := by
      have hsplit := congrArg List.sum (List.take_append_drop j (places.map Cell.atFirst))
      rw [List.drop_eq_getElem_cons h2, List.sum_append, List.sum_cons] at hsplit
      omega
    simp only [roundGrants, Function.iterate_zero, id, servedInOrder_getElem]
    omega
  have hweights : shortWeights places (places.map Cell.atFirst) =
      ((places.filter fun c => decide (c.atFirst < c.want)).map (·.place.weight)).sum := by
    have hzip : places.zip (places.map Cell.atFirst) = places.map fun c => (c, c.atFirst) :=
      List.ext_getElem (by simp) (by simp)
    rw [shortWeights, hzip, List.filter_map, List.map_map]
    rfl
  have hround := afterShareRound_getElem (available := available) (places := places) (grants := places.map Cell.atFirst)
    i (by simpa [afterShareRound_length] using hi) hi (by simpa using hi)
  rw [hweights, List.getElem_map] at hround
  have hmono := roundGrants_mono available places (show 1 ≤ 4 by decide) i hi
  simp only [roundGrants_succ available places 0, hfirst] at hmono
  rw [tierGrants_getElem available places i hi]
  omega

end

end Sys2Proof.Machine

/-! PROOF. The computation of a record, tier by tier (R63, R66 to R71): a tier writes its own places alone, its active places
get what `tierGrants` gives them out of what earlier tiers left, and its wants are fixed by what earlier tiers granted. -/

namespace Sys2Proof.Machine

open Sys2Proof

/-! ### Cells that change in some places alone -/

/-- The cell without its grant. -/
def Cell.bare (c : Cell) : Cell := { c with grant := 0 }

/-- A list of cells that keeps its places, and its cells outside some of them. -/
def Follows (p : GrantPlace → Bool) (cells cells' : List Cell) : Prop :=
  List.Forall₂ (fun c c' : Cell => c'.place = c.place ∧ (p c.place = false → c' = c)) cells cells'

/-- The same, and the wants are kept too. -/
def Regrants (p : GrantPlace → Bool) (cells cells' : List Cell) : Prop :=
  List.Forall₂ (fun c c' : Cell => c'.bare = c.bare ∧ (p c.place = false → c' = c)) cells cells'

section
variable {p q : GrantPlace → Bool} {a b c : List Cell}

theorem Follows.refl (p : GrantPlace → Bool) (cells : List Cell) : Follows p cells cells :=
  List.forall₂_same.mpr fun _ _ => ⟨rfl, fun _ => rfl⟩

theorem Regrants.refl (p : GrantPlace → Bool) (cells : List Cell) : Regrants p cells cells :=
  List.forall₂_same.mpr fun _ _ => ⟨rfl, fun _ => rfl⟩

theorem Follows.trans (h : Follows p a b) (h' : Follows p b c) : Follows p a c := by
  induction h generalizing c with
  | nil => cases h'; exact .nil
  | cons hab _ ih =>
    obtain _ | ⟨hbc, hrest⟩ := h'
    obtain ⟨hp, hsame⟩ := hab
    obtain ⟨hp', hsame'⟩ := hbc
    exact .cons ⟨hp'.trans hp, fun hout => (hsame' (hp ▸ hout)).trans (hsame hout)⟩ (ih hrest)

theorem Cell.place_of_bare {c c' : Cell} (h : c'.bare = c.bare) : c'.place = c.place := (Cell.mk.inj h).1

theorem Cell.want_of_bare {c c' : Cell} (h : c'.bare = c.bare) : c'.want = c.want := (Cell.mk.inj h).2.1

theorem Regrants.trans (h : Regrants p a b) (h' : Regrants p b c) : Regrants p a c := by
  induction h generalizing c with
  | nil => cases h'; exact .nil
  | cons hab _ ih =>
    obtain _ | ⟨hbc, hrest⟩ := h'
    obtain ⟨hp, hsame⟩ := hab
    obtain ⟨hp', hsame'⟩ := hbc
    exact .cons ⟨hp'.trans hp, fun hout => (hsame' (Cell.place_of_bare hp ▸ hout)).trans (hsame hout)⟩ (ih hrest)

theorem Follows.mono (h : Follows p a b) (hpq : ∀ g, p g = true → q g = true) : Follows q a b :=
  List.Forall₂.imp (fun _ _ ⟨hp, hsame⟩ => ⟨hp, fun hout => hsame (by
    by_contra hne
    rw [hpq _ (by simpa using hne)] at hout
    exact absurd hout (by simp))⟩) h

theorem Regrants.follows (h : Regrants p a b) : Follows p a b :=
  List.Forall₂.imp (fun _ _ ⟨hbare, hsame⟩ => ⟨Cell.place_of_bare hbare, hsame⟩) h

theorem Regrants.mono (h : Regrants p a b) (hpq : ∀ g, p g = true → q g = true) : Regrants q a b :=
  List.Forall₂.imp (fun _ _ ⟨hp, hsame⟩ => ⟨hp, fun hout => hsame (by
    by_contra hne
    rw [hpq _ (by simpa using hne)] at hout
    exact absurd hout (by simp))⟩) h

theorem Follows.places (h : Follows p a b) : b.map (·.place) = a.map (·.place) := by
  induction h with
  | nil => rfl
  | cons hab _ ih => rw [List.map_cons, List.map_cons, hab.1, ih]

theorem Regrants.filter_bare (h : Regrants p a b) (f : GrantPlace → Bool) :
    (b.filter fun c => f c.place).map Cell.bare = (a.filter fun c => f c.place).map Cell.bare := by
  induction h with
  | nil => rfl
  | cons hab _ ih =>
    rw [List.filter_cons, List.filter_cons, Cell.place_of_bare hab.1]
    split_ifs
    · rw [List.map_cons, List.map_cons, hab.1, ih]
    · exact ih

/-- What is selected outside the places that change is unchanged. -/
theorem Follows.filter_eq (h : Follows p a b) {f : GrantPlace → Bool} (hf : ∀ g, f g = true → p g = false) :
    (b.filter fun c => f c.place) = a.filter fun c => f c.place := by
  induction h with
  | nil => rfl
  | @cons x y _ _ hab _ ih =>
    rw [List.filter_cons, List.filter_cons, hab.1]
    cases hx : f x.place with
    | true => rw [if_pos rfl, if_pos rfl, hab.2 (hf _ hx), ih]
    | false => rw [if_neg (by simp), if_neg (by simp), ih]

/-- A cell of the later list, with the cells before it. -/
theorem Follows.split (h : Follows p a b) {pre : List Cell} {c : Cell} {post : List Cell} (hb : b = pre ++ c :: post) :
    ∃ pre' c' post', a = pre' ++ c' :: post' ∧ Follows p pre' pre ∧ c.place = c'.place
      ∧ (p c'.place = false → c = c') ∧ Follows p post' post := by
  subst hb
  induction pre generalizing a with
  | nil =>
    obtain _ | ⟨hab, hrest⟩ := h
    exact ⟨[], _, _, rfl, .nil, hab.1, hab.2, hrest⟩
  | cons x pre ih =>
    obtain _ | ⟨hab, hrest⟩ := h
    obtain ⟨pre', c', post', rfl, hpre, hplace, hsame, hpost⟩ := ih hrest
    exact ⟨_ :: pre', c', post', rfl, .cons hab hpre, hplace, hsame, hpost⟩

theorem Regrants.split (h : Regrants p a b) {pre : List Cell} {c : Cell} {post : List Cell} (hb : b = pre ++ c :: post) :
    ∃ pre' c' post', a = pre' ++ c' :: post' ∧ Regrants p pre' pre ∧ c.bare = c'.bare
      ∧ (p c'.place = false → c = c') := by
  subst hb
  induction pre generalizing a with
  | nil =>
    obtain _ | ⟨hab, hrest⟩ := h
    exact ⟨[], _, _, rfl, .nil, hab.1, hab.2⟩
  | cons x pre ih =>
    obtain _ | ⟨hab, hrest⟩ := h
    obtain ⟨pre', c', post', rfl, hpre, hplace, hsame⟩ := ih hrest
    exact ⟨_ :: pre', c', post', rfl, .cons hab hpre, hplace, hsame⟩

end

/-! ### Serving and sharing -/

section
variable (p : GrantPlace → Bool)

theorem serve_regrants (amount : Cell → Nat) (r : Nat) (cells : List Cell) :
    Regrants p cells (serve (fun c => p c.place) amount r cells).1 := by
  induction cells generalizing r with
  | nil => exact .nil
  | cons c cells ih =>
    rw [serve]
    split_ifs with hc
    · exact .cons ⟨rfl, fun h => absurd (hc.symm.trans h) (by simp)⟩ (ih _)
    · exact .cons ⟨rfl, fun _ => rfl⟩ (ih _)

theorem serve_remainder (amount : Cell → Nat) (r : Nat) (cells : List Cell) :
    (serve (fun c => p c.place) amount r cells).2 = r - ((cells.filter fun c => p c.place).map amount).sum := by
  induction cells generalizing r with
  | nil => rfl
  | cons c cells ih =>
    rw [serve, List.filter_cons]
    split_ifs with hc
    · rw [ih, List.map_cons, List.sum_cons]
      omega
    · exact ih r

/-- The grants of the selected cells. -/
def selectedGrants (cells : List Cell) : List Nat := (cells.filter fun c => p c.place).map (·.grant)

theorem zip_selectedGrants (cells : List Cell) :
    (cells.filter fun c => p c.place).zip (selectedGrants p cells) = (cells.filter fun c => p c.place).map fun c => (c, c.grant) :=
  List.ext_getElem (by simp [selectedGrants]) (by simp [selectedGrants])

theorem shortWeights_selected (cells : List Cell) :
    shortWeights (cells.filter fun c => p c.place) (selectedGrants p cells) =
      ((cells.filter fun c => p c.place && decide (c.grant < c.want)).map (·.place.weight)).sum := by
  rw [shortWeights, zip_selectedGrants, List.filter_map, List.map_map]
  have hfilter : (cells.filter fun c => p c.place && decide (c.grant < c.want)) =
      (cells.filter fun c => p c.place).filter fun c => decide (c.grant < c.want) := by
    rw [List.filter_filter]
    exact List.filter_congr fun c _ => Bool.and_comm _ _
  rw [hfilter]
  rfl

/-- The weights of the selected cells below their wants (R70). -/
def selectedWeights (cells : List Cell) : Nat :=
  ((cells.filter fun c => p c.place && decide (c.grant < c.want)).map (·.place.weight)).sum

/-- One share round as it is written: each selected cell below its want gets its share of an amount (R70). -/
def shareRound (r weights : Nat) (cells : List Cell) : List Cell :=
  cells.map fun c => if p c.place && decide (c.grant < c.want) then { c with grant := c.grant + shareOf r weights c } else c

theorem shareRound_regrants (r w : Nat) (cells : List Cell) : Regrants p cells (shareRound p r w cells) := by
  induction cells with
  | nil => exact .nil
  | cons c cells ih =>
    refine .cons ?_ ih
    dsimp only
    split_ifs with hc
    · exact ⟨rfl, fun h => absurd hc (by simp [h])⟩
    · exact ⟨rfl, fun _ => rfl⟩

theorem selectedGrants_shareRound (r w : Nat) (cells : List Cell) : selectedGrants p (shareRound p r w cells) =
    (cells.filter fun c => p c.place).map fun c => c.grant + min (c.want - c.grant) (r * c.place.weight / w) := by
  induction cells with
  | nil => rfl
  | cons c cells ih =>
    rw [selectedGrants, shareRound] at ih ⊢
    rw [List.map_cons, List.filter_cons, List.filter_cons]
    cases hc : p c.place with
    | false => simp only [hc, Bool.false_and, Bool.false_eq_true, if_false, ih]
    | true =>
      by_cases hshort : c.grant < c.want
      · simp only [hc, hshort, decide_true, Bool.and_self, if_true, List.map_cons, ih]
        rfl
      · have hmet : c.want - c.grant = 0 := by omega
        simp only [hc, hshort, decide_false, Bool.and_false, Bool.false_eq_true, if_false, if_true, List.map_cons, ih,
          hmet, Nat.zero_min, Nat.add_zero]

/-- A share round gives the selected cells what `afterShareRound` says. -/
theorem shareRound_grants (a : Nat) (cells : List Cell) :
    selectedGrants p (shareRound p (a - (selectedGrants p cells).sum) (selectedWeights p cells) cells) =
      afterShareRound a (cells.filter fun c => p c.place) (selectedGrants p cells) := by
  have hweights := shortWeights_selected p cells
  rw [selectedGrants_shareRound, selectedWeights, ← hweights]
  simp only [afterShareRound, shortWeights, zip_selectedGrants, List.map_map]
  rfl

theorem sum_shareRound (r w : Nat) (cells : List Cell) :
    (selectedGrants p (shareRound p r w cells)).sum = (selectedGrants p cells).sum
      + ((cells.filter fun c => p c.place && decide (c.grant < c.want)).map (shareOf r w)).sum := by
  rw [selectedGrants_shareRound, selectedGrants]
  induction cells with
  | nil => rfl
  | cons c cells ih =>
    simp only [List.filter_cons]
    cases hc : p c.place with
    | false => simpa [hc] using ih
    | true =>
      by_cases hshort : c.grant < c.want
      · simp only [hshort, decide_true, Bool.and_self, if_true, List.map_cons, List.sum_cons, ih]
        simp only [shareOf]
        omega
      · have hmet : c.want - c.grant = 0 := by omega
        simp only [hshort, decide_false, Bool.and_false, Bool.false_eq_true, if_false, if_true, List.map_cons,
          List.sum_cons, ih, hmet, Nat.zero_min]
        omega

theorem shareRound_eq_self {r w : Nat} {cells : List Cell}
    (h : ((cells.filter fun c => p c.place && decide (c.grant < c.want)).map (shareOf r w)).sum = 0) :
    shareRound p r w cells = cells := by
  rw [List.sum_eq_zero_iff] at h
  refine (List.map_congr_left fun c hc => ?_).trans (List.map_id _)
  split_ifs with hshort
  · have h0 : shareOf r w c = 0 := h _ (List.mem_map_of_mem (List.mem_filter.mpr ⟨hc, hshort⟩))
    rw [h0]
    rfl
  · rfl

/-- The share rounds depend on the places and the wants alone. -/
theorem afterShareRound_bare (a : Nat) (places : List Cell) (grants : List Nat) :
    afterShareRound a (places.map Cell.bare) grants = afterShareRound a places grants := by
  simp only [afterShareRound, List.zip_map_left, List.filter_map, List.map_map]
  rfl

theorem afterShareRound_congr {places places' : List Cell} (h : places'.map Cell.bare = places.map Cell.bare) (a : Nat) :
    afterShareRound a places' = afterShareRound a places := by
  funext grants
  rw [← afterShareRound_bare, h, afterShareRound_bare]

theorem shareRounds_succ (n r : Nat) (cells : List Cell) : shareRounds (fun c => p c.place) (n + 1) r cells =
    if ((cells.filter fun c => p c.place && decide (c.grant < c.want)).map (shareOf r (selectedWeights p cells))).sum = 0
    then (cells, r)
    else shareRounds (fun c => p c.place) n
      (r - ((cells.filter fun c => p c.place && decide (c.grant < c.want)).map (shareOf r (selectedWeights p cells))).sum)
      (shareRound p r (selectedWeights p cells) cells) := rfl

/-- The share rounds as they are written, which stop once one gives nothing, leave what the rounds of the statement do. -/
theorem shareRounds_spec (a n : Nat) (cells : List Cell) :
    let out := shareRounds (fun c => p c.place) n (a - (selectedGrants p cells).sum) cells
    Regrants p cells out.1
      ∧ selectedGrants p out.1 = (afterShareRound a (cells.filter fun c => p c.place))^[n] (selectedGrants p cells)
      ∧ out.2 = a - (selectedGrants p out.1).sum := by
  induction n generalizing cells with
  | zero => exact ⟨.refl p cells, rfl, rfl⟩
  | succ n ih =>
    rw [shareRounds_succ]
    have hgrants := shareRound_grants p a cells
    split_ifs with hnone
    · have hfixed : afterShareRound a (cells.filter fun c => p c.place) (selectedGrants p cells) =
          selectedGrants p cells := by rw [← hgrants, shareRound_eq_self p hnone]
      exact ⟨.refl p cells, (Function.iterate_fixed hfixed _).symm, rfl⟩
    · have hregrants := shareRound_regrants p (a - (selectedGrants p cells).sum) (selectedWeights p cells) cells
      have hsum := sum_shareRound p (a - (selectedGrants p cells).sum) (selectedWeights p cells) cells
      have hleft : a - (selectedGrants p cells).sum - ((cells.filter fun c => p c.place && decide (c.grant < c.want)).map
          (shareOf (a - (selectedGrants p cells).sum) (selectedWeights p cells))).sum =
          a - (selectedGrants p (shareRound p (a - (selectedGrants p cells).sum) (selectedWeights p cells) cells)).sum := by
        rw [hsum, Nat.sub_sub]
      rw [hleft]
      obtain ⟨h1, h2, h3⟩ := ih (shareRound p (a - (selectedGrants p cells).sum) (selectedWeights p cells) cells)
      refine ⟨hregrants.trans h1, ?_, h3⟩
      rw [h2, hgrants, afterShareRound_congr (hregrants.filter_bare p), ← Function.iterate_succ_apply]

end

end Sys2Proof.Machine

/-! PROOF. One tier run on the cells of a plan: its places, its wants, its grants, and what it leaves (R66 to R71). -/

namespace Sys2Proof.Machine

open Sys2Proof

/-! ### The wants of a tier -/

/-- A list of cells that keeps its grants, and its cells outside some places. -/
def Rewants (p : GrantPlace → Bool) (cells cells' : List Cell) : Prop :=
  List.Forall₂ (fun c c' : Cell => c'.place = c.place ∧ c'.grant = c.grant ∧ (p c.place = false → c' = c)) cells cells'

section
variable {p : GrantPlace → Bool} {a b : List Cell}

theorem Rewants.follows (h : Rewants p a b) : Follows p a b :=
  List.Forall₂.imp (fun _ _ ⟨hp, _, hsame⟩ => ⟨hp, hsame⟩) h

theorem Rewants.grants (h : Rewants p a b) (f : GrantPlace → Bool) :
    (b.filter fun c => f c.place).map (·.grant) = (a.filter fun c => f c.place).map (·.grant) := by
  induction h with
  | nil => rfl
  | cons hab _ ih =>
    rw [List.filter_cons, List.filter_cons, hab.1]
    split_ifs
    · rw [List.map_cons, List.map_cons, hab.2.1, ih]
    · exact ih

/-- What is said of every grant by its place holds after too. -/
theorem Rewants.forall_grant (h : Rewants p a b) {P : GrantPlace → Nat → Prop} (ha : ∀ c ∈ a, P c.place c.grant) :
    ∀ c ∈ b, P c.place c.grant := by
  induction h with
  | nil => exact fun c hc => absurd hc (by simp)
  | cons hab _ ih =>
    obtain ⟨hx, hrest⟩ := List.forall_mem_cons.mp ha
    exact List.forall_mem_cons.mpr ⟨by rw [hab.1, hab.2.1]; exact hx, ih hrest⟩

end

section
variable (t : Fin 4) (k : Nat) (role : StationNo → Role) (demand : StationNo → Fin 12 → Nat)

theorem fixWants_rewants (earlier cells : List Cell) :
    Rewants (inTier t k) cells (fixWants t k role demand earlier cells) := by
  induction cells generalizing earlier with
  | nil => exact .nil
  | cons c cells ih =>
    refine .cons ?_ (ih _)
    split_ifs with hc
    · exact ⟨rfl, rfl, fun h => absurd (hc.symm.trans h) (by simp)⟩
    · exact ⟨rfl, rfl, fun _ => rfl⟩

/-- The want of a place of the tier, by what the cells before it have been granted (R66). -/
theorem fixWants_split {earlier cells pre post : List Cell} {c : Cell}
    (h : fixWants t k role demand earlier cells = pre ++ c :: post) (hc : inTier t k c.place = true) :
    c.want = wantOf (role c.place.station) c.place
      (baseOf (demand c.place.station (queueIndex c.place.target c.place.cls))
        (grantedBefore (pre.reverse ++ earlier) c.place) c.place.ceiling) := by
  induction cells generalizing earlier pre with
  | nil => exact absurd h.symm (by simp [fixWants])
  | cons x cells ih =>
    rw [fixWants] at h
    cases pre with
    | nil =>
      obtain ⟨rfl, -⟩ := List.cons.inj h
      split_ifs at hc ⊢ with hx
      · rfl
      · exact absurd hc hx
    | cons y pre =>
      obtain ⟨hy, hrest⟩ := List.cons.inj h
      have hwant := ih hrest
      rw [hy] at hwant
      simpa using hwant

end

/-- The cells of a station, target and class that tiers before this one have granted, among the cells before a place
(R66). -/
def alreadyGranted (t : Fin 4) (k : Nat) (g : GrantPlace) (earlier : List Cell) : Nat :=
  ((earlier.filter fun x =>
    x.place.station == g.station && x.place.target == t && x.place.cls == g.cls && decide (x.place.tier < k)).map
      (·.grant)).sum

/-- What the cells before a place have been granted is what tiers before its own granted them, while the others hold
nothing. -/
theorem grantedBefore_eq {t : Fin 4} {k : Nat} {g : GrantPlace} (hg : g.target = t) (cells : List Cell)
    (h : ∀ c ∈ cells, c.place.target = t → k ≤ c.place.tier → c.grant = 0) :
    grantedBefore cells.reverse g = alreadyGranted t k g cells := by
  have hreverse : grantedBefore cells.reverse g = grantedBefore cells g := by
    simp [grantedBefore, List.filter_reverse, List.map_reverse]
  rw [hreverse, grantedBefore, alreadyGranted, hg]
  induction cells with
  | nil => rfl
  | cons c cells ih =>
    obtain ⟨hc, hrest⟩ := List.forall_mem_cons.mp h
    have ih' := ih hrest (by simp [grantedBefore, List.filter_reverse, List.map_reverse])
    rw [List.filter_cons, List.filter_cons]
    cases hsame : (c.place.station == g.station && c.place.target == t && c.place.cls == g.cls) with
    | false => simpa [hsame] using ih'
    | true =>
      by_cases htier : c.place.tier < k
      · simpa [hsame, htier] using ih'
      · have ht : c.place.target = t := by
          simp only [Bool.and_eq_true, beq_iff_eq] at hsame
          exact hsame.1.2
        simpa [hsame, htier, hc ht (Nat.le_of_not_lt htier)] using ih'

/-! ### The grants of a tier depend on its places and wants -/

section
variable {places places' : List Cell}

theorem roundGrants_congr (h : places'.map Cell.bare = places.map Cell.bare) (a n : Nat) :
    roundGrants a places' n = roundGrants a places n := by
  have hfirst : places'.map Cell.atFirst = places.map Cell.atFirst := by
    have hbare := congrArg (List.map Cell.atFirst) h
    rw [List.map_map, List.map_map] at hbare
    exact hbare
  rw [roundGrants, roundGrants, afterShareRound_congr h, hfirst]

/-- The unmet wants of cells that hold what the share rounds gave. -/
theorem unmetWants_eq (h : places'.map Cell.bare = places.map Cell.bare) {a : Nat}
    (hgrants : places.map (·.grant) = roundGrants a places' 4) :
    unmetWants a places' = places.map fun c => c.want - c.grant := by
  have hwant : places'.map (·.want) = places.map (·.want) := by
    have hbare := congrArg (List.map Cell.want) h
    rw [List.map_map, List.map_map] at hbare
    exact hbare
  have hzip (l : List Cell) (g : List Nat) :
      List.zipWith (fun c g => c.want - g) l g = List.zipWith (· - ·) (l.map (·.want)) g := by
    rw [List.zipWith_map_left]
  rw [unmetWants, ← hgrants, hzip, hwant]
  exact List.ext_getElem (by simp) (by simp)

end

/-! ### A tier run -/

/-- The active places of a tier (R68). -/
def activeIn (role : StationNo → Role) (t : Fin 4) (k : Nat) (g : GrantPlace) : Bool :=
  inTier t k g && role g.station != .inactive

section
variable (role : StationNo → Role) (demand : StationNo → Fin 12 → Nat) (t : Fin 4) (k : Nat) (r : Nat)
  {cells : List Cell}

theorem inTier_of_activeIn {g : GrantPlace} (h : activeIn role t k g = true) : inTier t k g = true :=
  (Bool.and_eq_true_iff.mp h).1

theorem selectedGrants_of_zero {p : GrantPlace → Bool} (h : ∀ c ∈ cells, p c.place = true → c.grant = 0) :
    selectedGrants p cells = List.replicate (cells.filter fun c => p c.place).length 0 := by
  refine List.eq_replicate_iff.mpr ⟨by simp [selectedGrants], fun g hg => ?_⟩
  obtain ⟨c, hc, rfl⟩ := List.mem_map.mp hg
  obtain ⟨hmem, hp⟩ := List.mem_filter.mp hc
  exact h c hmem hp

theorem zipWith_replicate_zero (l : List Nat) : List.zipWith (· + ·) (List.replicate l.length 0) l = l :=
  List.ext_getElem (by simp) (by simp)

/-- The floor step gives cells without a grant their floors in order (R69). -/
theorem floorStep_spec (p : GrantPlace → Bool) (hzero : ∀ c ∈ cells, p c.place = true → c.grant = 0) :
    let out := serve (fun c => p c.place) (fun c => min c.place.floor c.want) r cells
    selectedGrants p out.1 = servedInOrder r ((cells.filter fun c => p c.place).map Cell.atFirst)
      ∧ out.2 = r - (selectedGrants p out.1).sum := by
  intro out
  have hgrants : selectedGrants p out.1 = servedInOrder r ((cells.filter fun c => p c.place).map Cell.atFirst) := by
    have hserved := serve_selected (fun c => p c.place) (fun c => min c.place.floor c.want) (fun _ _ => rfl) r cells
    have hstart : (cells.filter fun c => p c.place).map (·.grant) =
        List.replicate (servedInOrder r ((cells.filter fun c => p c.place).map Cell.atFirst)).length 0 := by
      rw [servedInOrder_length, List.length_map]
      exact selectedGrants_of_zero hzero
    rw [hstart] at hserved
    exact hserved.trans (zipWith_replicate_zero _)
  refine ⟨hgrants, ?_⟩
  have hrest : out.2 = r - ((cells.filter fun c => p c.place).map Cell.atFirst).sum := serve_remainder _ _ _ _
  rw [hgrants, servedInOrder_sum, hrest]
  omega

/-- The residue walk completes what the share rounds gave (R71). -/
theorem residueWalk_spec (p : GrantPlace → Bool) {left : Nat}
    (hgrants : selectedGrants p cells = roundGrants r (cells.filter fun c => p c.place) 4)
    (hleft : left = r - (selectedGrants p cells).sum) :
    let out := serve (fun c => p c.place) (fun c => c.want - c.grant) left cells
    selectedGrants p out.1 = tierGrants r (out.1.filter fun c => p c.place)
      ∧ out.2 = r - (selectedGrants p out.1).sum := by
  intro out
  have hbare := (serve_regrants p (fun c => c.want - c.grant) left cells).filter_bare p
  have hrounds := roundGrants_congr hbare r 4
  have hunmet := unmetWants_eq hbare (hgrants.trans hrounds.symm)
  have hout : selectedGrants p out.1 = tierGrants r (out.1.filter fun c => p c.place) := by
    rw [tierGrants_eq, hunmet, hrounds, ← hgrants, ← hleft]
    exact serve_selected (fun c => p c.place) (fun c => c.want - c.grant) (fun _ _ => rfl) left cells
  refine ⟨hout, ?_⟩
  have hrest : out.2 = left - ((cells.filter fun c => p c.place).map fun c => c.want - c.grant).sum :=
    serve_remainder _ _ _ _
  rw [hout, tierGrants_sum, hunmet, hrounds, ← hgrants, hrest, hleft]
  omega

/-- What the wants, the floor step, the share rounds and the residue walk of a tier make of its cells. -/
theorem runTier_spec (hfresh : ∀ c ∈ cells, inTier t k c.place = true → c.grant = 0) :
    let out := runTier role demand t k (cells, r)
    Regrants (activeIn role t k) (fixWants t k role demand [] cells) out.1
      ∧ selectedGrants (activeIn role t k) out.1 = tierGrants r (out.1.filter fun c => activeIn role t k c.place)
      ∧ out.2 = r - (selectedGrants (activeIn role t k) out.1).sum := by
  have hzero : ∀ c ∈ fixWants t k role demand [] cells, activeIn role t k c.place = true → c.grant = 0 := fun c hc ha =>
    (fixWants_rewants t k role demand [] cells).forall_grant (P := fun g n => inTier t k g = true → n = 0) hfresh c hc
      (inTier_of_activeIn role t k ha)
  obtain ⟨hgrants, hleft⟩ := floorStep_spec r (activeIn role t k) hzero
  have hfloors := serve_regrants (activeIn role t k) (fun c => min c.place.floor c.want) r
    (fixWants t k role demand [] cells)
  generalize hf : serve (fun c => activeIn role t k c.place) (fun c => min c.place.floor c.want) r
    (fixWants t k role demand [] cells) = floors at hgrants hleft hfloors
  have hrounds := shareRounds_spec (activeIn role t k) r 4 floors.1
  rw [← hleft] at hrounds
  obtain ⟨hshared, hgrants', hleft'⟩ := hrounds
  generalize hs : shareRounds (fun c => activeIn role t k c.place) 4 floors.2 floors.1 = shared at hshared hgrants' hleft'
  have hround : selectedGrants (activeIn role t k) shared.1 =
      roundGrants r (shared.1.filter fun c => activeIn role t k c.place) 4 := by
    rw [roundGrants_congr ((hfloors.trans hshared).filter_bare _), hgrants', hgrants, roundGrants,
      afterShareRound_congr (hfloors.filter_bare _)]
  have hresidue := residueWalk_spec r (activeIn role t k) hround hleft'
  have hout : runTier role demand t k (cells, r) =
      serve (fun c => activeIn role t k c.place) (fun c => c.want - c.grant) shared.2 shared.1 := by
    rw [← hs, ← hf]
    rfl
  rw [hout]
  exact ⟨(hfloors.trans hshared).trans (serve_regrants _ _ _ _), hresidue⟩

end

end Sys2Proof.Machine

/-! PROOF. The tiers of a target one after the other, the targets one after the other, and the places of a plan (R60, R63, R68). -/

namespace Sys2Proof.Machine

open Sys2Proof

/-! ### What a tier that has run leaves -/

/-- The cells that the tiers of a target before this one have granted. -/
def grantedBelow (t : Fin 4) (k : Nat) (cells : List Cell) : Nat :=
  ((cells.filter fun x => x.place.target == t && decide (x.place.tier < k)).map (·.grant)).sum

/-- A tier that has run: its active places hold what `tierGrants` gives them, its wants are fixed, and its other places hold
nothing. -/
structure TierDone (role : StationNo → Role) (demand : StationNo → Fin 12 → Nat) (cap : Nat) (t : Fin 4) (k : Nat)
    (cells : List Cell) : Prop where
  grants : selectedGrants (activeIn role t k) cells =
    tierGrants (cap - grantedBelow t k cells) (cells.filter fun c => activeIn role t k c.place)
  want : ∀ (pre : List Cell) (c : Cell) (post : List Cell), cells = pre ++ c :: post → inTier t k c.place = true →
    c.want = wantOf (role c.place.station) c.place
      (baseOf (demand c.place.station (queueIndex c.place.target c.place.cls)) (alreadyGranted t k c.place pre)
        c.place.ceiling)
  inactive : ∀ c ∈ cells, inTier t k c.place = true → role c.place.station = .inactive → c.grant = 0

/-- A target whose first tiers have run, within its capacity. -/
structure TargetRun (role : StationNo → Role) (demand : StationNo → Fin 12 → Nat) (cap : Nat) (t : Fin 4) (n : Nat)
    (cells : List Cell) : Prop where
  tiers : ∀ k < n, TierDone role demand cap t k cells
  later : ∀ c ∈ cells, c.place.target = t → n ≤ c.place.tier → c.grant = 0
  within : grantedBelow t n cells ≤ cap

section
variable {p : GrantPlace → Bool} {a b : List Cell}

theorem Follows.mem (h : Follows p a b) {c : Cell} (hc : c ∈ b) (hp : p c.place = false) : c ∈ a := by
  induction h with
  | nil => exact hc
  | cons hab _ ih =>
    obtain rfl | hc := List.mem_cons.mp hc
    · rw [hab.2 (hab.1 ▸ hp)]
      exact List.mem_cons_self
    · exact List.mem_cons_of_mem _ (ih hc)

theorem inTier_iff {t : Fin 4} {k : Nat} {g : GrantPlace} : inTier t k g = true ↔ g.target = t ∧ g.tier = k := by
  simp [inTier]

theorem Follows.grantedBelow {t : Fin 4} {k : Nat} (h : Follows p a b)
    (hp : ∀ g : GrantPlace, g.target = t → g.tier < k → p g = false) : grantedBelow t k b = grantedBelow t k a := by
  have hfilter := h.filter_eq (f := fun g => g.target == t && decide (g.tier < k)) fun g hg => by
    simp only [Bool.and_eq_true, beq_iff_eq, decide_eq_true_eq] at hg
    exact hp g hg.1 hg.2
  rw [Machine.grantedBelow, Machine.grantedBelow, hfilter]

theorem Follows.alreadyGranted {t : Fin 4} {k : Nat} (h : Follows p a b)
    (hp : ∀ g : GrantPlace, g.target = t → g.tier < k → p g = false) (g : GrantPlace) :
    alreadyGranted t k g b = alreadyGranted t k g a := by
  have hfilter := h.filter_eq
    (f := fun x => x.station == g.station && x.target == t && x.cls == g.cls && decide (x.tier < k)) fun x hx => by
    simp only [Bool.and_eq_true, beq_iff_eq, decide_eq_true_eq] at hx
    exact hp x hx.1.1.2 hx.2
  rw [Machine.alreadyGranted, Machine.alreadyGranted, hfilter]

variable {role : StationNo → Role} {demand : StationNo → Fin 12 → Nat} {cap : Nat} {t : Fin 4}

/-- What a tier has left stays so while its places and those of the tiers before it are not written. -/
theorem TierDone.follows {k : Nat} (h : TierDone role demand cap t k a) (hf : Follows p a b)
    (hp : ∀ g : GrantPlace, g.target = t → g.tier ≤ k → p g = false) : TierDone role demand cap t k b := by
  obtain ⟨hgrants, hwant, hinactive⟩ := h
  have hbelow (g : GrantPlace) (ht : g.target = t) (hk : g.tier < k) := hp g ht hk.le
  have hin {g : GrantPlace} (hg : inTier t k g = true) : p g = false := by
    obtain ⟨ht, hk⟩ := inTier_iff.mp hg
    exact hp g ht hk.le
  refine ⟨?_, fun pre c post hb hc => ?_, fun c hc htier => hinactive c (hf.mem hc (hin htier)) htier⟩
  · have hfilter := hf.filter_eq (f := activeIn role t k) fun g hg => hin (inTier_of_activeIn role t k hg)
    rw [selectedGrants, hfilter, hf.grantedBelow hbelow]
    exact hgrants
  · obtain ⟨pre', c', post', ha, hpre, hplace, hsame, -⟩ := hf.split hb
    obtain rfl := hsame (hplace ▸ hin hc)
    rw [hpre.alreadyGranted hbelow]
    exact hwant pre' c post' ha hc

theorem TargetRun.follows {n : Nat} (h : TargetRun role demand cap t n a) (hf : Follows p a b)
    (hp : ∀ g : GrantPlace, g.target = t → p g = false) : TargetRun role demand cap t n b where
  tiers k hk := (h.tiers k hk).follows hf fun g ht _ => hp g ht
  later c hc ht hn := h.later c (hf.mem hc (hp _ ht)) ht hn
  within := (hf.grantedBelow fun g ht _ => hp g ht).trans_le h.within

end

/-! ### Tier by tier -/

section
variable (t : Fin 4) (k : Nat) {cells : List Cell}

theorem sum_filter_split {f g h : Cell → Bool} (hsplit : ∀ c, f c = (g c || h c)) (hdisjoint : ∀ c, g c = true → h c = false)
    (cells : List Cell) : ((cells.filter f).map (·.grant)).sum =
      ((cells.filter g).map (·.grant)).sum + ((cells.filter h).map (·.grant)).sum := by
  induction cells with
  | nil => rfl
  | cons c cells ih =>
    simp only [List.filter_cons, hsplit c]
    cases hg : g c with
    | true => simp [hdisjoint c hg, ih, Nat.add_assoc]
    | false =>
      cases hh : h c with
      | true =>
        simp only [Bool.or_true, Bool.false_eq_true, if_true, if_false, List.map_cons, List.sum_cons, ih]
        omega
      | false => simpa using ih

/-- What the tiers up to one have granted is what those before it did and its own grants, which its active places hold. -/
theorem grantedBelow_succ (role : StationNo → Role)
    (h : ∀ c ∈ cells, inTier t k c.place = true → role c.place.station = .inactive → c.grant = 0) :
    grantedBelow t (k + 1) cells = grantedBelow t k cells + (selectedGrants (activeIn role t k) cells).sum := by
  have htier := sum_filter_split (f := fun x => x.place.target == t && decide (x.place.tier < k + 1))
    (g := fun x => x.place.target == t && decide (x.place.tier < k)) (h := fun x => inTier t k x.place)
    (fun c => by
      rw [Bool.eq_iff_iff]
      simp only [inTier, Bool.or_eq_true, Bool.and_eq_true, beq_iff_eq, decide_eq_true_eq, Nat.lt_succ_iff_lt_or_eq]
      tauto)
    (fun c hc => by
      simp only [Bool.and_eq_true, beq_iff_eq, decide_eq_true_eq] at hc
      rw [Bool.eq_false_iff]
      exact fun htier => absurd (inTier_iff.mp htier).2 hc.2.ne) cells
  have hactive := sum_filter_split (f := fun x => inTier t k x.place) (g := fun x => activeIn role t k x.place)
    (h := fun x => inTier t k x.place && role x.place.station == .inactive)
    (fun c => by
      rw [Bool.eq_iff_iff]
      simp only [activeIn, Bool.or_eq_true, Bool.and_eq_true, beq_iff_eq, bne_iff_ne, ne_eq]
      tauto)
    (fun c hc => by
      simp only [activeIn, Bool.and_eq_true, bne_iff_ne, ne_eq] at hc
      simp [hc.2]) cells
  have hnone : ((cells.filter fun x => inTier t k x.place && role x.place.station == .inactive).map (·.grant)).sum = 0 := by
    rw [List.sum_eq_zero_iff]
    intro g hg
    obtain ⟨c, hc, rfl⟩ := List.mem_map.mp hg
    obtain ⟨hmem, hc⟩ := List.mem_filter.mp hc
    simp only [Bool.and_eq_true, beq_iff_eq] at hc
    exact h c hmem hc.1 hc.2
  rw [hnone, Nat.add_zero] at hactive
  exact htier.trans (congrArg _ hactive)

variable {role : StationNo → Role} {demand : StationNo → Fin 12 → Nat} {cap : Nat}

theorem runTier_follows (r : Nat) (hfresh : ∀ c ∈ cells, inTier t k c.place = true → c.grant = 0) :
    Follows (inTier t k) cells (runTier role demand t k (cells, r)).1 :=
  (fixWants_rewants t k role demand [] cells).follows.trans
    ((runTier_spec role demand t k r hfresh).1.follows.mono fun _ h => inTier_of_activeIn role t k h)

/-- A tier run on a target whose earlier tiers have run. -/
theorem TargetRun.runTier (h : TargetRun role demand cap t k cells) :
    let out := runTier role demand t k (cells, cap - grantedBelow t k cells)
    TargetRun role demand cap t (k + 1) out.1 ∧ out.2 = cap - grantedBelow t (k + 1) out.1
      ∧ Follows (inTier t k) cells out.1 := by
  intro out
  have hfresh : ∀ c ∈ cells, inTier t k c.place = true → c.grant = 0 := fun c hc hin => by
    obtain ⟨ht, hk⟩ := inTier_iff.mp hin
    exact h.later c hc ht hk.ge
  obtain ⟨hregrants, hgrants, hleft⟩ := runTier_spec role demand t k (cap - grantedBelow t k cells) hfresh
  have hrewants := fixWants_rewants t k role demand [] cells
  have hfollows : Follows (inTier t k) cells out.1 := runTier_follows t k _ hfresh
  have hout {g : GrantPlace} (hne : g.tier ≠ k) : inTier t k g = false := by
    rw [Bool.eq_false_iff]
    exact fun hin => hne (inTier_iff.mp hin).2
  have hbelow : grantedBelow t k out.1 = grantedBelow t k cells := hfollows.grantedBelow fun g _ hk => hout hk.ne
  have hinactive : ∀ c ∈ out.1, inTier t k c.place = true → role c.place.station = .inactive → c.grant = 0 := by
    intro c hc hin hrole
    have hmem := hregrants.follows.mem hc (by simp [activeIn, hrole])
    exact hrewants.forall_grant (P := fun g n => inTier t k g = true → n = 0) hfresh c hmem hin
  have hsucc := grantedBelow_succ t k role hinactive
  have hsum : (selectedGrants (activeIn role t k) out.1).sum ≤ cap - grantedBelow t k cells :=
    hgrants ▸ tierGrants_sum_le _ _
  have hdone : TierDone role demand cap t k out.1 := by
    refine ⟨hbelow.symm ▸ hgrants, fun pre c post hb hc => ?_, hinactive⟩
    obtain ⟨pre', c', post', ha, hpre, hbare, -⟩ := hregrants.split hb
    have hplace := Cell.place_of_bare hbare
    have hwant := fixWants_split t k role demand ha (hplace ▸ hc)
    have hzero : ∀ x ∈ pre', x.place.target = t → k ≤ x.place.tier → x.grant = 0 := fun x hx =>
      hrewants.forall_grant (P := fun g n => g.target = t → k ≤ g.tier → n = 0) h.later x (by rw [ha]; simp [hx])
    rw [List.append_nil, grantedBefore_eq (hplace ▸ (inTier_iff.mp hc).1) pre' hzero, ← hplace] at hwant
    rw [Cell.want_of_bare hbare, hwant, hpre.follows.alreadyGranted fun g _ hk => by simp [activeIn, hout hk.ne]]
  refine ⟨⟨fun j hj => ?_, fun c hc ht hk => ?_, ?_⟩, ?_, hfollows⟩
  · obtain hj | rfl := Nat.lt_succ_iff_lt_or_eq.mp hj
    · exact (h.tiers j hj).follows hfollows fun g _ hg => hout (by omega)
    · exact hdone
  · exact h.later c (hfollows.mem hc (hout (by omega))) ht (by omega)
  · have := h.within
    rw [hsucc, hbelow]
    omega
  · rw [hsucc, hbelow, ← Nat.sub_sub]
    exact hleft

/-- The tiers of a target run one after the other. -/
theorem runTiers_run (hfresh : ∀ c ∈ cells, c.place.target = t → c.grant = 0) (n : Nat) :
    let out := (List.range n).foldl (fun st tier => runTier role demand t tier st) (cells, cap)
    TargetRun role demand cap t n out.1 ∧ out.2 = cap - grantedBelow t n out.1
      ∧ Follows (fun g => g.target == t) cells out.1 := by
  induction n with
  | zero =>
    have hnone : grantedBelow t 0 cells = 0 := by simp [grantedBelow]
    refine ⟨⟨fun k hk => absurd hk (by simp), fun c hc ht _ => hfresh c hc ht, hnone.trans_le (Nat.zero_le _)⟩, ?_,
      Follows.refl _ _⟩
    exact (congrArg (cap - ·) hnone).symm
  | succ n ih =>
    obtain ⟨hrun, hleft, hfollows⟩ := ih
    rw [List.range_succ, List.foldl_append]
    simp only [List.foldl_cons, List.foldl_nil]
    generalize (List.range n).foldl (fun st tier => Machine.runTier role demand t tier st) (cells, cap) = st at hrun hleft hfollows
    obtain ⟨cells', r⟩ := st
    dsimp only at hrun hleft hfollows ⊢
    subst hleft
    obtain ⟨h1, h2, h3⟩ := hrun.runTier
    exact ⟨h1, h2, hfollows.trans (h3.mono fun g hg => beq_iff_eq.mpr (inTier_iff.mp hg).1)⟩

end

/-! ### Target by target -/

theorem runTarget_run (plan : Plan) {role : StationNo → Role} {demand : StationNo → Fin 12 → Nat} {cap : Nat} {t : Fin 4}
    {cells : List Cell} (hfresh : ∀ c ∈ cells, c.place.target = t → c.grant = 0) :
    TargetRun role demand cap t (plan.tierCount t) (runTarget plan role demand cap cells t)
      ∧ Follows (fun g => g.target == t) cells (runTarget plan role demand cap cells t) := by
  obtain ⟨hrun, -, hfollows⟩ := runTiers_run (role := role) (demand := demand) (cap := cap) t hfresh (plan.tierCount t)
  exact ⟨hrun, hfollows⟩

/-- The targets run one after the other, none touching the cells of another: what each leaves of its own stays so. -/
theorem foldTargets_run {run : List Cell → Fin 4 → List Cell} {Done : Fin 4 → List Cell → Prop}
    (hrun : ∀ (t : Fin 4) (cells : List Cell), (∀ c ∈ cells, c.place.target = t → c.grant = 0) →
      Done t (run cells t) ∧ Follows (fun g => g.target == t) cells (run cells t))
    (hstable : ∀ (t : Fin 4) (p : GrantPlace → Bool) (a b : List Cell), Done t a → Follows p a b →
      (∀ g : GrantPlace, g.target = t → p g = false) → Done t b) :
    ∀ (ts : List (Fin 4)) (_ : ts.Nodup) (cells : List Cell) (_ : ∀ c ∈ cells, c.place.target ∈ ts → c.grant = 0),
      (∀ t ∈ ts, Done t (ts.foldl run cells)) ∧ Follows (fun g => decide (g.target ∈ ts)) cells (ts.foldl run cells)
  | [], _, cells, _ => ⟨fun t ht => absurd ht (by simp), Follows.refl _ _⟩
  | t :: ts, hnodup, cells, hfresh => by
    obtain ⟨ht, hts⟩ := List.nodup_cons.mp hnodup
    obtain ⟨hdone, hfollows⟩ := hrun t cells fun c hc hct => hfresh c hc (hct ▸ List.mem_cons_self)
    obtain ⟨hdones, hrest⟩ := foldTargets_run hrun hstable ts hts (run cells t) fun c hc hct => by
      have hne : c.place.target ≠ t := fun h => ht (h ▸ hct)
      exact hfresh c (hfollows.mem hc (by simpa using hne)) (List.mem_cons_of_mem _ hct)
    refine ⟨fun t' ht' => ?_, ?_⟩
    · obtain rfl | ht' := List.mem_cons.mp ht'
      · exact hstable t' _ _ _ hdone hrest fun g hg => by simpa [hg] using ht
      · exact hdones t' ht'
    · exact (hfollows.mono fun g hg => by simp [beq_iff_eq.mp hg]).trans
        (hrest.mono fun g hg => by simpa using Or.inr (of_decide_eq_true hg))

section
variable (plan : Plan) (role : StationNo → Role) (demand : StationNo → Fin 12 → Nat) (capacity : Vector Nat 4)

theorem mem_inUseTargets (t : Fin 4) : t ∈ plan.inUseTargets ↔ t.val < plan.targets := by
  simp [Plan.inUseTargets, mem_allTargets]

theorem inUseTargets_nodup : plan.inUseTargets.Nodup :=
  List.Nodup.filter _ (by decide)

theorem plan_cells_grant {plan : Plan} {c : Cell} (hc : c ∈ plan.cells) : c.grant = 0 := by
  obtain ⟨g, -, rfl⟩ := List.mem_map.mp hc
  rfl

theorem computeCells_run :
    (∀ t : Fin 4, t.val < plan.targets →
      TargetRun role demand capacity[t] t (plan.tierCount t) (computeCells plan role demand capacity))
    ∧ Follows (fun g => decide (g.target ∈ plan.inUseTargets)) plan.cells (computeCells plan role demand capacity) := by
  obtain ⟨hruns, hfollows⟩ := foldTargets_run
    (run := fun cells t => runTarget plan role demand capacity[t] cells t)
    (Done := fun t cells => TargetRun role demand capacity[t] t (plan.tierCount t) cells)
    (fun t cells hfresh => runTarget_run plan hfresh) (fun t p a b h hf hp => h.follows hf hp)
    plan.inUseTargets (inUseTargets_nodup plan) plan.cells fun c hc _ => plan_cells_grant hc
  exact ⟨fun t ht => hruns t ((mem_inUseTargets plan t).mpr ht), hfollows⟩

theorem places_of_follows {p : GrantPlace → Bool} {cells : List Cell} (h : Follows p plan.cells cells) :
    cells.map (·.place) = plan.places := by
  rw [h.places, Plan.cells, List.map_map]
  exact List.map_id _

end

/-! ### The places of a plan -/

theorem mem_expandEntries {closed : Vector Nat 4} {es : List PlanEntry} {g : GrantPlace} (h : g ∈ expandEntries closed es) :
    ∃ e ∈ es, g.floor = e.floor ∧ g.ceiling = e.ceiling := by
  induction es generalizing closed with
  | nil => exact absurd h (by simp [expandEntries])
  | cons e es ih =>
    rw [expandEntries] at h
    obtain h | h := List.mem_append.mp h
    · obtain ⟨k, -, rfl⟩ := List.mem_map.mp h
      exact ⟨e, List.mem_cons_self, rfl, rfl⟩
    · obtain ⟨e', he', hsame⟩ := ih h
      exact ⟨e', List.mem_cons_of_mem _ he', hsame⟩

/-- The places of a target stand in its tiers, when its last entry closes one (R6). -/
theorem tier_lt_of_mem_expandEntries {t : Fin 4} {closed : Vector Nat 4} {es : List PlanEntry} {g : GrantPlace}
    (hlast : ∀ e ∈ (es.filter fun e => e.target == t).getLast?, e.tierEnd = true) (h : g ∈ expandEntries closed es)
    (hg : g.target = t) : g.tier < closed[t] + (es.filter fun e => e.target == t && e.tierEnd).length := by
  induction es generalizing closed with
  | nil => exact absurd h (by simp [expandEntries])
  | cons e es ih =>
    rw [expandEntries] at h
    obtain h | h := List.mem_append.mp h
    · obtain ⟨k, -, rfl⟩ := List.mem_map.mp h
      have het : e.target = t := hg
      subst het
      refine Nat.lt_add_of_pos_right (List.length_pos_iff_exists_mem.mpr ?_)
      have hmem : e ∈ (e :: es).filter fun e' => e'.target == e.target := by simp
      obtain ⟨l, hl⟩ := Option.isSome_iff_exists.mp (List.getLast?_isSome.mpr (List.ne_nil_of_mem hmem))
      obtain ⟨hlmem, hltarget⟩ := List.mem_filter.mp (List.mem_of_getLast? hl)
      exact ⟨l, List.mem_filter.mpr ⟨hlmem, by simp [hltarget, hlast l hl]⟩⟩
    · have hrest : ∀ e' ∈ (es.filter fun e => e.target == t).getLast?, e'.tierEnd = true := by
        intro e' he'
        refine hlast e' ?_
        rw [List.filter_cons]
        split_ifs
        · rw [List.getLast?_cons, Option.mem_def.mp he']
          rfl
        · exact he'
      have hlt := ih hrest h
      rw [List.filter_cons]
      cases hend : e.tierEnd with
      | false => simpa [hend] using hlt
      | true =>
        rw [hend, if_pos rfl] at hlt
        by_cases het : e.target = t
        · subst het
          simp only [Fin.getElem_fin, Vector.getElem_set_self] at hlt
          simp only [Fin.getElem_fin, beq_self_eq_true, Bool.and_self, if_true, List.length_cons]
          omega
        · have hne : e.target.val ≠ t.val := fun h => het (Fin.ext h)
          simp only [Fin.getElem_fin, Vector.getElem_set_ne _ _ hne] at hlt
          simpa [het] using hlt

end Sys2Proof.Machine

/-! PROOF. The grants of a record within their bounds (R66 to R71, R76): what a place holds in a computed record, by its tier,
and in a Fallback record. -/

namespace Sys2Proof.Machine

open Sys2Proof

/-! ### A Fallback record -/

/-- The cells that hold a target's grants. -/
def grantedOf (t : Fin 4) (cells : List Cell) : Nat := ((cells.filter fun x => x.place.target == t).map (·.grant)).sum

theorem Follows.grantedOf {p : GrantPlace → Bool} {a b : List Cell} {t : Fin 4} (h : Follows p a b)
    (hp : ∀ g : GrantPlace, g.target = t → p g = false) : grantedOf t b = grantedOf t a := by
  have hfilter := h.filter_eq (f := fun g => g.target == t) fun g hg => hp g (beq_iff_eq.mp hg)
  rw [Machine.grantedOf, Machine.grantedOf, hfilter]

/-- A target of a Fallback record: each active place its floor in plan order, as far as capacity reaches (R76). -/
structure FallbackDone (role : StationNo → Role) (cap : Nat) (t : Fin 4) (cells : List Cell) : Prop where
  grant : ∀ (pre : List Cell) (c : Cell) (post : List Cell), cells = pre ++ c :: post → c.place.target = t →
    c.grant = if role c.place.station = .inactive then 0 else min c.place.floor (cap - grantedOf t pre)
  within : grantedOf t cells ≤ cap

theorem FallbackDone.follows {role : StationNo → Role} {cap : Nat} {t : Fin 4} {p : GrantPlace → Bool} {a b : List Cell}
    (h : FallbackDone role cap t a) (hf : Follows p a b) (hp : ∀ g : GrantPlace, g.target = t → p g = false) :
    FallbackDone role cap t b where
  grant pre c post hb hc := by
    obtain ⟨pre', c', post', ha, hpre, hplace, hsame, -⟩ := hf.split hb
    obtain rfl := hsame (hplace ▸ hp _ hc)
    rw [hpre.grantedOf hp]
    exact h.grant pre' c post' ha hc
  within := (hf.grantedOf hp).trans_le h.within

theorem serve_append (select : Cell → Bool) (amount : Cell → Nat) (r : Nat) (a b : List Cell) :
    (serve select amount r (a ++ b)).1 =
      (serve select amount r a).1 ++ (serve select amount (serve select amount r a).2 b).1 := by
  induction a generalizing r with
  | nil => rfl
  | cons c a ih =>
    rw [List.cons_append, serve, serve]
    split_ifs
    · exact congrArg (List.cons _) (ih _)
    · exact congrArg (List.cons _) (ih _)

section
variable (role : StationNo → Role) (cap : Nat) (t : Fin 4) {cells : List Cell}

/-- The places of a target that a Fallback record serves. -/
def activeOf (g : GrantPlace) : Bool := g.target == t && role g.station != .inactive

theorem grantedOf_eq_selected (h : ∀ c ∈ cells, c.place.target = t → role c.place.station = .inactive → c.grant = 0) :
    grantedOf t cells = (selectedGrants (activeOf role t) cells).sum := by
  have hsplit := sum_filter_split (f := fun x => x.place.target == t) (g := fun x => activeOf role t x.place)
    (h := fun x => x.place.target == t && role x.place.station == .inactive)
    (fun c => by
      rw [Bool.eq_iff_iff]
      simp only [activeOf, Bool.or_eq_true, Bool.and_eq_true, beq_iff_eq, bne_iff_ne, ne_eq]
      tauto)
    (fun c hc => by
      simp only [activeOf, Bool.and_eq_true, bne_iff_ne, ne_eq] at hc
      simp [hc.2]) cells
  have hnone : ((cells.filter fun x => x.place.target == t && role x.place.station == .inactive).map (·.grant)).sum = 0 := by
    rw [List.sum_eq_zero_iff]
    intro g hg
    obtain ⟨c, hc, rfl⟩ := List.mem_map.mp hg
    obtain ⟨hmem, hc⟩ := List.mem_filter.mp hc
    simp only [Bool.and_eq_true, beq_iff_eq] at hc
    exact h c hmem hc.1 hc.2
  rw [hnone, Nat.add_zero] at hsplit
  exact hsplit

/-- A run over cells that hold nothing of the target: what is left is what the capacity exceeds the grants by. -/
theorem fallbackRun_left (hfresh : ∀ c ∈ cells, c.place.target = t → c.grant = 0) :
    let out := serve (fun c => activeOf role t c.place) (fun c => c.place.floor) cap cells
    out.2 = cap - grantedOf t out.1 ∧ grantedOf t out.1 ≤ cap := by
  intro out
  have hregrants := serve_regrants (activeOf role t) (fun c => c.place.floor) cap cells
  have hgranted := grantedOf_eq_selected role t (cells := out.1) fun c hc ht hrole =>
    hfresh c (hregrants.follows.mem hc (by simp [activeOf, hrole])) ht
  have hzero := selectedGrants_of_zero (p := activeOf role t) (cells := cells) fun c hc ha =>
    hfresh c hc (by simp only [activeOf, Bool.and_eq_true, beq_iff_eq] at ha; exact ha.1)
  have hserved := serve_selected (fun c => activeOf role t c.place) (fun c => c.place.floor) (fun _ _ => rfl) cap cells
  have hstart : (cells.filter fun c => activeOf role t c.place).map (·.grant) = List.replicate
      (servedInOrder cap ((cells.filter fun c => activeOf role t c.place).map fun c => c.place.floor)).length 0 := by
    rw [servedInOrder_length, List.length_map]
    exact hzero
  rw [hstart] at hserved
  have hgrants : selectedGrants (activeOf role t) out.1 =
      servedInOrder cap ((cells.filter fun c => activeOf role t c.place).map fun c => c.place.floor) :=
    hserved.trans (zipWith_replicate_zero _)
  have hleft : out.2 = cap - ((cells.filter fun c => activeOf role t c.place).map fun c => c.place.floor).sum :=
    serve_remainder _ _ _ _
  rw [hgranted, hgrants, servedInOrder_sum, hleft]
  omega

theorem fallbackTarget_done (hfresh : ∀ c ∈ cells, c.place.target = t → c.grant = 0) :
    FallbackDone role cap t (fallbackTarget role cap cells t)
      ∧ Follows (fun g => g.target == t) cells (fallbackTarget role cap cells t) := by
  have hregrants := serve_regrants (activeOf role t) (fun c => c.place.floor) cap cells
  have hout : fallbackTarget role cap cells t =
      (serve (fun c => activeOf role t c.place) (fun c => c.place.floor) cap cells).1 := rfl
  rw [hout]
  refine ⟨⟨fun pre c post hb hc => ?_, (fallbackRun_left role cap t hfresh).2⟩, hregrants.follows.mono fun g hg => ?_⟩
  · obtain ⟨pre', c', post', ha, hpre, hbare, hsame⟩ := hregrants.split hb
    have hplace := Cell.place_of_bare hbare
    have hzero : c'.grant = 0 := hfresh c' (by rw [ha]; simp) (hplace ▸ hc)
    have hleft := (fallbackRun_left role cap t (cells := pre') fun x hx => hfresh x (by rw [ha]; simp [hx])).1
    rw [ha, serve_append] at hb
    have hlength : (serve (fun c => activeOf role t c.place) (fun c => c.place.floor) cap pre').1.length = pre.length :=
      (serve_regrants (activeOf role t) _ _ _).length_eq.symm.trans hpre.length_eq
    obtain ⟨hpre', hc'⟩ := List.append_inj hb hlength
    rw [hpre'] at hleft
    rw [serve] at hc'
    split_ifs at hc' with hactive
    · obtain ⟨hcell, -⟩ := List.cons.inj hc'
      simp only [activeOf, Bool.and_eq_true, bne_iff_ne, ne_eq] at hactive
      rw [hplace, if_neg hactive.2, ← hleft, ← hcell, hzero, Nat.zero_add]
    · obtain ⟨hcell, -⟩ := List.cons.inj hc'
      have hrole : role c.place.station = .inactive := by
        by_contra hne
        exact hactive (by simp [activeOf, ← hplace, hc, hne])
      rw [if_pos hrole, ← hcell, hzero]
  · simp only [activeOf, Bool.and_eq_true] at hg
    exact hg.1

theorem fallbackCells_run (plan : Plan) (capacity : Vector Nat 4) :
    (∀ t : Fin 4, t.val < plan.targets → FallbackDone role capacity[t] t (fallbackCells plan role capacity))
    ∧ Follows (fun g => decide (g.target ∈ plan.inUseTargets)) plan.cells (fallbackCells plan role capacity) := by
  obtain ⟨hdone, hfollows⟩ := foldTargets_run (run := fun cells t => fallbackTarget role capacity[t] cells t)
    (Done := fun t cells => FallbackDone role capacity[t] t cells)
    (fun t cells hfresh => fallbackTarget_done role capacity[t] t hfresh) (fun t p a b h hf hp => h.follows hf hp)
    plan.inUseTargets (inUseTargets_nodup plan) plan.cells fun c hc _ => plan_cells_grant hc
  exact ⟨fun t ht => hdone t ((mem_inUseTargets plan t).mpr ht), hfollows⟩

end

end Sys2Proof.Machine

/-! PROOF. What a place holds in a computed record, by its tier; and every record within its bounds (R66 to R71, R73, R75,
R76, R82). -/

namespace Sys2Proof.Machine

open Sys2Proof

section
variable {role : StationNo → Role} {demand : StationNo → Fin 12 → Nat} {cap : Nat} {t : Fin 4} {k n : Nat}
  {cells : List Cell}

/-! ### A place of a tier that has run -/

theorem TierDone.want_of_inactive (h : TierDone role demand cap t k cells) {c : Cell} (hc : c ∈ cells)
    (hin : inTier t k c.place = true) (hrole : role c.place.station = .inactive) : c.want = 0 := by
  obtain ⟨pre, post, hsplit⟩ := List.append_of_mem hc
  rw [h.want pre c post hsplit hin, hrole]
  rfl

/-- What a tier's places ask for first, its active places do. -/
theorem TierDone.sum_atFirst (h : TierDone role demand cap t k cells) {l : List Cell} (hl : ∀ c ∈ l, c ∈ cells) :
    ((l.filter fun x => inTier t k x.place).map Cell.atFirst).sum =
      ((l.filter fun x => activeIn role t k x.place).map Cell.atFirst).sum := by
  induction l with
  | nil => rfl
  | cons c l ih =>
    obtain ⟨hc, hrest⟩ := List.forall_mem_cons.mp hl
    rw [List.filter_cons, List.filter_cons]
    cases hin : inTier t k c.place with
    | false => simpa [activeIn, hin] using ih hrest
    | true =>
      by_cases hrole : role c.place.station = .inactive
      · have hfirst : c.atFirst = 0 := by rw [Cell.atFirst, h.want_of_inactive hc hin hrole, Nat.min_zero]
        simpa [activeIn, hin, hrole, hfirst] using ih hrest
      · simpa [activeIn, hin, hrole] using ih hrest

theorem TierDone.weights (h : TierDone role demand cap t k cells) :
    (cells.filter fun x => inTier t k x.place && decide (x.atFirst < x.want)) =
      (cells.filter fun x => activeIn role t k x.place).filter fun x => decide (x.atFirst < x.want) := by
  rw [List.filter_filter]
  refine List.filter_congr fun c hc => ?_
  cases hin : inTier t k c.place with
  | false => simp [activeIn, hin]
  | true =>
    by_cases hrole : role c.place.station = .inactive
    · simp [activeIn, hrole, h.want_of_inactive hc hin hrole]
    · simp [activeIn, hin, hrole]

/-- An active place among the active places of its tier, and its grant among theirs. -/
theorem TierDone.active_grant (h : TierDone role demand cap t k cells) {pre post : List Cell} {c : Cell}
    (hsplit : cells = pre ++ c :: post) (hactive : activeIn role t k c.place = true) :
    let places := cells.filter fun x => activeIn role t k x.place
    let first := pre.filter fun x => activeIn role t k x.place
    ∃ hi : first.length < places.length, places[first.length] = c ∧ places.take first.length = first
      ∧ c.grant = (tierGrants (cap - grantedBelow t k cells) places)[first.length]'(by simpa using hi) := by
  intro places first
  have hplaces : places = first ++ c :: post.filter fun x => activeIn role t k x.place := by
    simp only [places, first, hsplit, List.filter_append, List.filter_cons, hactive, if_true]
  have hi : first.length < places.length := by simp [hplaces]
  have hget : places[first.length] = c := by simp [hplaces]
  refine ⟨hi, hget, by simp [hplaces], ?_⟩
  have hgrants : (places.map (·.grant))[first.length]'(by simpa using hi) = c.grant := by
    rw [List.getElem_map, hget]
  rw [← hgrants]
  exact List.getElem_of_eq h.grants _

theorem TierDone.grant_le_want (h : TierDone role demand cap t k cells) {c : Cell} (hc : c ∈ cells)
    (hin : inTier t k c.place = true) : c.grant ≤ c.want := by
  by_cases hrole : role c.place.station = .inactive
  · rw [h.inactive c hc hin hrole]
    exact Nat.zero_le _
  · obtain ⟨pre, post, hsplit⟩ := List.append_of_mem hc
    obtain ⟨hi, hget, -, hgrant⟩ := h.active_grant hsplit (by simp [activeIn, hin, hrole])
    have hle := tierGrants_le_want (cap - grantedBelow t k cells) (cells.filter fun x => activeIn role t k x.place) _ hi
    rwa [hget, ← hgrant] at hle

/-- A want unmet leaves nothing to the tiers that follow (R71). -/
theorem TierDone.sum_of_unmet (h : TierDone role demand cap t k cells) {c : Cell} (hc : c ∈ cells)
    (hin : inTier t k c.place = true) (hunmet : c.grant < c.want) :
    (selectedGrants (activeIn role t k) cells).sum = cap - grantedBelow t k cells := by
  have hrole : role c.place.station ≠ .inactive := fun hrole => by
    rw [h.want_of_inactive hc hin hrole] at hunmet
    exact absurd hunmet (Nat.not_lt_zero _)
  obtain ⟨pre, post, hsplit⟩ := List.append_of_mem hc
  obtain ⟨hi, hget, -, hgrant⟩ := h.active_grant hsplit (by simp [activeIn, hin, hrole])
  have hsum := tierGrants_sum_of_unmet (cap - grantedBelow t k cells) (cells.filter fun x => activeIn role t k x.place) _ hi
  rw [hget, ← hgrant] at hsum
  rw [h.grants]
  exact hsum hunmet

/-- The floor step in plan order, by the places before this one (R69). -/
theorem TierDone.floor_le_grant (h : TierDone role demand cap t k cells) {pre post : List Cell} {c : Cell}
    (hsplit : cells = pre ++ c :: post) (hin : inTier t k c.place = true) :
    min c.atFirst (cap - grantedBelow t k cells - ((pre.filter fun x => inTier t k x.place).map Cell.atFirst).sum)
      ≤ c.grant := by
  have hc : c ∈ cells := by simp [hsplit]
  by_cases hrole : role c.place.station = .inactive
  · rw [Cell.atFirst, h.want_of_inactive hc hin hrole, Nat.min_zero, Nat.zero_min]
    exact Nat.zero_le _
  · obtain ⟨hi, hget, htake, hgrant⟩ := h.active_grant hsplit (by simp [activeIn, hin, hrole])
    have hle := le_tierGrants (cap - grantedBelow t k cells) (cells.filter fun x => activeIn role t k x.place) _ hi
    rw [hget, htake, ← hgrant] at hle
    rwa [h.sum_atFirst fun x hx => by simp [hsplit, hx]]

/-- Each place's weight's share of what the floors leave, where they are all served (R70). -/
theorem TierDone.share_le_grant (h : TierDone role demand cap t k cells) {c : Cell} (hc : c ∈ cells)
    (hin : inTier t k c.place = true)
    (hfloors : ((cells.filter fun x => inTier t k x.place).map Cell.atFirst).sum ≤ cap - grantedBelow t k cells) :
    c.atFirst + min (c.want - c.atFirst)
        ((cap - grantedBelow t k cells - ((cells.filter fun x => inTier t k x.place).map Cell.atFirst).sum)
          * c.place.weight / ((cells.filter fun x => inTier t k x.place && decide (x.atFirst < x.want)).map
            (·.place.weight)).sum)
      ≤ c.grant := by
  by_cases hrole : role c.place.station = .inactive
  · have hwant := h.want_of_inactive hc hin hrole
    rw [Cell.atFirst, hwant, Nat.min_zero, Nat.zero_sub, Nat.zero_min]
    exact Nat.zero_le _
  · obtain ⟨pre, post, hsplit⟩ := List.append_of_mem hc
    obtain ⟨hi, hget, -, hgrant⟩ := h.active_grant hsplit (by simp [activeIn, hin, hrole])
    rw [h.sum_atFirst fun x hx => hx] at hfloors ⊢
    have hle := le_tierGrants_of_floors _ _ hfloors _ hi
    rw [hget, ← hgrant] at hle
    rwa [h.weights]

/-! ### A target that has run -/

theorem le_sum_grants {l : List Cell} {c : Cell} (hc : c ∈ l) : c.grant ≤ (l.map (·.grant)).sum :=
  List.le_sum_of_mem (List.mem_map_of_mem hc)

theorem grantedOf_split (t : Fin 4) (k : Nat) (cells : List Cell) : grantedOf t cells = grantedBelow t k cells
    + ((cells.filter fun x => x.place.target == t && decide (k ≤ x.place.tier)).map (·.grant)).sum :=
  sum_filter_split (fun c => by
      rw [Bool.eq_iff_iff]
      simp only [Bool.or_eq_true, Bool.and_eq_true, decide_eq_true_eq]
      have := Nat.lt_or_ge c.place.tier k
      tauto)
    (fun c hc => by
      simp only [Bool.and_eq_true, decide_eq_true_eq] at hc
      simp [hc.2]) cells

theorem TargetRun.grantedOf_le (h : TargetRun role demand cap t n cells) : grantedOf t cells ≤ cap := by
  have hnone : ((cells.filter fun x => x.place.target == t && decide (n ≤ x.place.tier)).map (·.grant)).sum = 0 := by
    rw [List.sum_eq_zero_iff]
    intro g hg
    obtain ⟨c, hc, rfl⟩ := List.mem_map.mp hg
    obtain ⟨hmem, hc⟩ := List.mem_filter.mp hc
    simp only [Bool.and_eq_true, beq_iff_eq, decide_eq_true_eq] at hc
    exact h.later c hmem hc.1 hc.2
  rw [grantedOf_split t n, hnone]
  exact h.within

/-- A want unmet: the target's grants reach its capacity, and later tiers hold nothing (R71). -/
theorem TargetRun.of_unmet (h : TargetRun role demand cap t n cells) (hk : k < n) {c : Cell} (hc : c ∈ cells)
    (hin : inTier t k c.place = true) (hunmet : c.grant < c.want) :
    grantedOf t cells = cap ∧ ∀ x ∈ cells, x.place.target = t → k < x.place.tier → x.grant = 0 := by
  have htotal := h.grantedOf_le
  have hsum := (h.tiers k hk).sum_of_unmet hc hin hunmet
  have hsucc := grantedBelow_succ t k role (h.tiers k hk).inactive
  have hsplit := grantedOf_split t (k + 1) cells
  refine ⟨by omega, fun x hx ht hkx => ?_⟩
  have hle := le_sum_grants (l := cells.filter fun x => x.place.target == t && decide (k + 1 ≤ x.place.tier))
    (List.mem_filter.mpr ⟨hx, by simp [ht]; omega⟩)
  omega

/-- A place's grant is within its ceiling, and within its floor if its station is a guest (R66, R67). -/
theorem TargetRun.grant_le (h : TargetRun role demand cap t n cells) {c : Cell} (hc : c ∈ cells) (ht : c.place.target = t)
    (hfloor : c.place.floor ≤ c.place.ceiling) :
    c.grant ≤ c.place.ceiling ∧ (role c.place.station = .guest → c.grant ≤ c.place.floor) := by
  by_cases hn : c.place.tier < n
  · have hin : inTier t c.place.tier c.place = true := inTier_iff.mpr ⟨ht, rfl⟩
    have hle := (h.tiers _ hn).grant_le_want hc hin
    obtain ⟨pre, post, hsplit⟩ := List.append_of_mem hc
    have hwant := (h.tiers _ hn).want pre c post hsplit hin
    have hbase (d g : Nat) : baseOf d g c.place.ceiling ≤ c.place.ceiling := Nat.min_le_right _ _
    generalize hb : baseOf (demand c.place.station (queueIndex c.place.target c.place.cls))
      (alreadyGranted t c.place.tier c.place pre) c.place.ceiling = base at hwant
    have hb' := hb ▸ hbase _ _
    constructor
    · cases hrole : role c.place.station <;> rw [hrole] at hwant <;> simp only [wantOf] at hwant
      · split_ifs at hwant <;> omega
      · omega
      · omega
    · intro hrole
      rw [hrole] at hwant
      simp only [wantOf] at hwant
      omega
  · have hzero := h.later c hc ht (Nat.le_of_not_lt hn)
    exact ⟨by omega, fun _ => by omega⟩

end

/-! ### Records within their bounds -/

section
variable {plan : Plan}

theorem floor_le_ceiling_of_places (h : ∀ e ∈ plan.entries, e.floor ≤ e.ceiling) {g : GrantPlace} (hg : g ∈ plan.places) :
    g.floor ≤ g.ceiling := by
  obtain ⟨e, he, hfloor, hceiling⟩ := mem_expandEntries hg
  rw [hfloor, hceiling]
  exact h e he

theorem roleIn_guest {members guests : StationMask} {k : StationNo} (hg : holds guests k = true)
    (hm : holds members k = false) : roleIn members guests k = .guest := by
  simp [roleIn, hg, hm]

/-- A record formed from cells within their bounds is within its own (R60, R71). -/
theorem formRecord_bounded {members guests : StationMask} {pressure : TargetSet} {admin : Admin} {origin : Origin}
    {cells : List Cell} (hplaces : cells.map (·.place) = plan.places)
    (hsum : ∀ t : Fin 4, grantedOf t cells ≤ (effectiveCapacities plan admin pressure)[t])
    (hgrant : ∀ c ∈ cells, c.grant ≤ c.place.ceiling
      ∧ (roleIn members guests c.place.station = .guest → c.grant ≤ c.place.floor)) :
    (formRecord plan members guests pressure admin origin cells).bounded plan := by
  have hcells : (formRecord plan members guests pressure admin origin cells).cells plan =
      cells.map fun c => (c.place, c.grant) := by
    rw [Record.cells, ← hplaces]
    exact List.ext_getElem (by simp [formRecord]) (by simp [formRecord])
  refine ⟨?_, fun t => ?_, fun pg hpg => ?_⟩
  · rw [← hplaces]
    simp [formRecord]
  · have hgranted : (formRecord plan members guests pressure admin origin cells).granted plan t = grantedOf t cells := by
      rw [Record.granted, hcells, List.filter_map, List.map_map]
      rfl
    rw [hgranted]
    exact hsum t
  · rw [hcells] at hpg
    obtain ⟨c, hc, rfl⟩ := List.mem_map.mp hpg
    obtain ⟨hceiling, hguest⟩ := hgrant c hc
    exact ⟨hceiling, fun hg hm => hguest (roleIn_guest hg hm)⟩

/-- The cells of a target out of use hold nothing. -/
theorem grant_of_follows_inUse {cells : List Cell} (h : Follows (fun g => decide (g.target ∈ plan.inUseTargets)) plan.cells cells)
    {c : Cell} (hc : c ∈ cells) (ht : ¬ c.place.target.val < plan.targets) : c.grant = 0 :=
  plan_cells_grant (h.mem hc (by simpa [mem_inUseTargets] using ht))

theorem grantedOf_of_not_inUse {cells : List Cell}
    (h : Follows (fun g => decide (g.target ∈ plan.inUseTargets)) plan.cells cells) {t : Fin 4}
    (ht : ¬ t.val < plan.targets) : grantedOf t cells = 0 := by
  rw [grantedOf, List.sum_eq_zero_iff]
  intro g hg
  obtain ⟨c, hc, rfl⟩ := List.mem_map.mp hg
  obtain ⟨hmem, hct⟩ := List.mem_filter.mp hc
  exact grant_of_follows_inUse h hmem (beq_iff_eq.mp hct ▸ ht)

theorem computedRecord_bounded (hfloor : ∀ e ∈ plan.entries, e.floor ≤ e.ceiling) (members guests : StationMask)
    (pressure : TargetSet) (a : Admin) (demand : StationNo → Fin 12 → Nat) :
    (computedRecord plan members guests pressure a demand).bounded plan := by
  obtain ⟨hruns, hfollows⟩ := computeCells_run plan (roleIn members guests) demand (effectiveCapacities plan a pressure)
  have hplaces := places_of_follows plan hfollows
  refine formRecord_bounded hplaces (fun t => ?_) fun c hc => ?_
  · by_cases ht : t.val < plan.targets
    · exact (hruns t ht).grantedOf_le
    · rw [grantedOf_of_not_inUse hfollows ht]
      exact Nat.zero_le _
  · by_cases ht : c.place.target.val < plan.targets
    · exact (hruns _ ht).grant_le hc rfl (floor_le_ceiling_of_places hfloor (hplaces ▸ List.mem_map_of_mem hc))
    · rw [grant_of_follows_inUse hfollows hc ht]
      exact ⟨Nat.zero_le _, fun _ => Nat.zero_le _⟩

theorem FallbackDone.grant_le_floor {role : StationNo → Role} {cap : Nat} {t : Fin 4} {cells : List Cell}
    (h : FallbackDone role cap t cells) {c : Cell} (hc : c ∈ cells) (ht : c.place.target = t) : c.grant ≤ c.place.floor := by
  obtain ⟨pre, post, hsplit⟩ := List.append_of_mem hc
  rw [h.grant pre c post hsplit ht]
  split_ifs
  · exact Nat.zero_le _
  · exact Nat.min_le_left _ _

theorem fallbackRecord_bounded (hfloor : ∀ e ∈ plan.entries, e.floor ≤ e.ceiling) (r : Record) :
    (fallbackRecord plan r).bounded plan := by
  obtain ⟨hruns, hfollows⟩ := fallbackCells_run (roleIn r.members r.guests) plan
    (effectiveCapacities plan r.admin r.pressure)
  have hplaces := places_of_follows plan hfollows
  refine formRecord_bounded hplaces (fun t => ?_) fun c hc => ?_
  · by_cases ht : t.val < plan.targets
    · exact (hruns t ht).within
    · rw [grantedOf_of_not_inUse hfollows ht]
      exact Nat.zero_le _
  · have hle : c.grant ≤ c.place.floor := by
      by_cases ht : c.place.target.val < plan.targets
      · exact (hruns _ ht).grant_le_floor hc rfl
      · rw [grant_of_follows_inUse hfollows hc ht]
        exact Nat.zero_le _
    exact ⟨hle.trans (floor_le_ceiling_of_places hfloor (hplaces ▸ List.mem_map_of_mem hc)), fun _ => hle⟩

end

/-- Settles O38: tier by tier for a computed record, place by place for a Fallback one. -/
theorem grantsStayWithinTheirBounds : Obligations.GrantsStayWithinTheirBounds := by
  intro plan hfloor
  refine ⟨computedRecord_bounded hfloor, fallbackRecord_bounded hfloor, fun role demand capacity => ?_⟩
  obtain ⟨hruns, hfollows⟩ := computeCells_run plan role demand capacity
  obtain ⟨hfallback, hfollows'⟩ := fallbackCells_run role plan capacity
  have hplaces := places_of_follows plan hfollows
  refine ⟨⟨hplaces, places_of_follows plan hfollows'⟩, fun t ht hlast i c hi hct => ?_, fun t ht tier htier => ?_,
    fun t ht i c hi hct => ?_⟩
  · subst hct
    obtain ⟨hlt, hci⟩ := List.getElem?_eq_some_iff.mp hi
    have hsplit := List.take_append_drop i (computeCells plan role demand capacity)
    rw [List.drop_eq_getElem_cons hlt, hci] at hsplit
    have hc : c ∈ computeCells plan role demand capacity := hci ▸ List.getElem_mem hlt
    have hk : c.place.tier < plan.tierCount c.place.target := by
      have htier := tier_lt_of_mem_expandEntries (closed := Vector.replicate 4 0) hlast
        (hplaces ▸ List.mem_map_of_mem hc : c.place ∈ plan.places) rfl
      simpa [Plan.tierCount] using htier
    have hin : inTier c.place.target c.place.tier c.place = true := inTier_iff.mpr ⟨rfl, rfl⟩
    have hrun := hruns _ ht
    have hdone := hrun.tiers _ hk
    have hwant := hdone.want _ c _ hsplit.symm hin
    exact ⟨fun hrole => by rw [hwant, hrole]; rfl, fun hrole => by rw [hwant, hrole]; rfl,
      fun hrole => by rw [hwant, hrole]; rfl,
      hdone.grant_le_want hc hin, hrun.of_unmet hk hc hin, hdone.floor_le_grant hsplit.symm hin,
      hdone.share_le_grant hc hin⟩
  · exact ((hruns t ht).tiers tier htier).grants
  · obtain ⟨hlt, rfl⟩ := List.getElem?_eq_some_iff.mp hi
    have hsplit := List.take_append_drop i (fallbackCells plan role capacity)
    rw [List.drop_eq_getElem_cons hlt] at hsplit
    exact (hfallback t ht).grant _ _ _ hsplit.symm hct

/-! ### The standing record and the pending one -/

theorem Record.sized_bounded (plan : Plan) : (Record.sized plan).bounded plan := by
  have hcells : ∀ pg ∈ (Record.sized plan).cells plan, pg.2 = 0 := by
    intro pg hpg
    have hgrant := (List.of_mem_zip hpg).2
    simp only [Record.sized, List.mem_map] at hgrant
    obtain ⟨-, -, h⟩ := hgrant
    exact h.symm
  refine ⟨by simp [Record.sized], fun t => ?_, fun pg hpg => ?_⟩
  · have hnone : (Record.sized plan).granted plan t = 0 := by
      rw [Record.granted, List.sum_eq_zero_iff]
      intro g hg
      obtain ⟨pg, hpg, rfl⟩ := List.mem_map.mp hg
      exact hcells pg (List.mem_of_mem_filter hpg)
    rw [hnone]
    exact Nat.zero_le _
  · rw [hcells pg hpg]
    exact ⟨Nat.zero_le _, fun _ _ => Nat.zero_le _⟩

theorem originPair_void (plan : Plan) (a : Alloc) :
    originPair plan.voidLimit (voidRecord plan a).origin (voidCountAfter plan a.voidCount) := by
  have hle : voidCountAfter plan a.voidCount ≤ plan.voidLimit := satInc_le _ _
  unfold voidRecord
  split_ifs with hbelow
  · refine ⟨fun h => absurd h (by simp), fun _ => ⟨?_, hbelow⟩, fun h => absurd h (by simp)⟩
    simp only [voidCountAfter, satInc] at hbelow ⊢
    omega
  · exact ⟨fun h => absurd h (by simp [fallbackRecord, formRecord]),
      fun h => absurd h (by simp [fallbackRecord, formRecord]), fun _ => .inr (by omega)⟩

/-- The invariants of the Allocation Engine, as one of the record and the settle. -/
def Alloc.Sound (plan : Plan) (a : Alloc) : Prop :=
  (originPair plan.voidLimit a.standing.origin a.voidCount
      ∧ ∀ r ∈ a.pending, originPair plan.voidLimit r.origin a.pendingVoid)
    ∧ (a.standing.bounded plan ∧ ∀ r ∈ a.pending, r.bounded plan)
    ∧ (a.handOver.isSome = true ↔ a.settle = .inFlight)

theorem State.AllocMove.sound {s : State} {a : Alloc} (h : s.AllocMove a) (hfloor : ∀ e ∈ s.plan.entries, e.floor ≤ e.ceiling)
    (hs : s.alloc.Sound s.plan) : a.Sound s.plan := by
  obtain ⟨⟨hvoid, hvoid'⟩, ⟨hbounded, hbounded'⟩, hsettle⟩ := hs
  cases h with
  | formVoid =>
    refine ⟨⟨hvoid, fun r hr => Option.some.inj hr ▸ originPair_void s.plan s.alloc⟩,
      ⟨hbounded, fun r hr => Option.some.inj hr ▸ ?_⟩, by simp [Alloc.formVoid]⟩
    unfold voidRecord
    split_ifs
    · exact hbounded
    · exact fallbackRecord_bounded hfloor _
  | promote =>
    unfold Alloc.promote
    split
    next hnone => exact ⟨⟨hvoid, hvoid'⟩, ⟨hbounded, hbounded'⟩, by simp⟩
    next r hr =>
      exact ⟨⟨hvoid' r hr, fun r hr => absurd hr (by simp)⟩, ⟨hbounded' r hr, fun r hr => absurd hr (by simp)⟩, by simp⟩
  | handOver c => exact ⟨⟨hvoid, hvoid'⟩, ⟨hbounded, hbounded'⟩, by simp⟩
  | complete members guests pressure admin demand =>
    refine ⟨⟨hvoid, fun r hr => Option.some.inj hr ▸ ?_⟩,
      ⟨hbounded, fun r hr => Option.some.inj hr ▸ computedRecord_bounded hfloor _ _ _ _ _⟩, by simp⟩
    exact ⟨fun _ => rfl, fun h => absurd h (by simp [computedRecord, formRecord]),
      fun h => absurd h (by simp [computedRecord, formRecord])⟩

theorem Move.allocSound {A : Prop} {u v : State} (h : Move A u v) (hfloor : ∀ e ∈ u.plan.entries, e.floor ≤ e.ceiling)
    (hu : u.alloc.Sound u.plan) : v.alloc.Sound v.plan := by
  cases h with
  | faults f h => rw [State.setFaults_eq]; exact hu
  | alloc a h => exact h.sound hfloor hu
  | _ => exact hu

/-- A record that grants nothing and stands as Fallback with no void epoch behind it. -/
theorem allocSound_of_reset {plan : Plan} {r : Record} (horigin : r.origin = .fallback) (hbounded : r.bounded plan) :
    ({ Alloc.reset with standing := r } : Alloc).Sound plan := by
  refine ⟨⟨⟨fun h => ?_, fun h => ?_, fun _ => .inl rfl⟩, fun r hr => absurd hr (by simp [Alloc.reset])⟩,
    ⟨hbounded, fun r hr => absurd hr (by simp [Alloc.reset])⟩, by simp [Alloc.reset]⟩
  · exact absurd (horigin.symm.trans h) (by simp)
  · exact absurd (horigin.symm.trans h) (by simp)

/-- Settles O57: what the Allocation Engine computes is bounded, and every move takes records from there. -/
theorem allocationStaysWithinItsBounds : Obligations.AllocationStaysWithinItsBounds := by
  intro s t hrest hloaded hvoid hbounded hsettle hstep
  have hsound : t.alloc.Sound t.plan := by
    refine step_keeps (P := fun u => u.alloc.Sound u.plan) hrest hstep (fun _ => ⟨hvoid, hbounded, hsettle⟩)
      (fun u _ hb => ?_) (fun u hl => ?_) (fun _ _ _ h => h) fun u v ho _ hl h => ?_
    · obtain ⟨-, -, halloc, -, -, -, hplan, -⟩ := hb
      have hplaces : u.plan = Plan.empty := hplan
      rw [halloc, hplaces]
      exact allocSound_of_reset (r := Record.reset) rfl
        ⟨rfl, fun t => Nat.zero_le _, fun pg hpg => absurd hpg (by simp [Record.cells, Record.reset])⟩
    · rw [hl.alloc]
      exact allocSound_of_reset rfl (Record.sized_bounded _)
    · obtain ⟨⟨-, -, -, -, -, -, -, hentries, -⟩, -⟩ := hloaded.1 ho
      refine h.allocSound ?_
      rw [State.plan, hl]
      exact fun e he => (hentries e he).2.2.2.1
  exact hsound

end Sys2Proof.Machine

/-! PROOF. Steps, time and resets (R2, R12, R21, R22, R24, R154). -/

namespace Sys2Proof.Machine

open Sys2Proof

/-- Settles O1: no command reaches into the queue. -/
theorem stepTakesTheFrontCommand : Obligations.StepTakesTheFrontCommand := by
  refine ⟨fun c rest s hp => step_cons s c rest hp, fun c s => ?_⟩
  have hnext : ∃ t, exec c s = .next t := by cases c <;> exact ⟨_, rfl⟩
  obtain ⟨t, ht⟩ := hnext
  exact ⟨t, ht, (exec_reaches ht).2.1⟩

theorem State.epochBitTimes_eq (s : State) : s.epochBitTimes = 100 * s.plan.epochLength := by
  simp only [State.epochBitTimes, bitTimes]
  omega

theorem Phase.after_eq (p : Phase) (timer : Nat) :
    p.after timer = if p = .markGuard ∧ 200 ≤ timer then .slot 0 else if p = .settle ∧ 9600 ≤ timer then .idle else p := by
  have hguard : bitTimes 20 = 200 := rfl
  have hsettle : settleLimit = 9600 := rfl
  cases p <;> simp [Phase.after, hguard, hsettle]

/-- Settles O2: the timer and the pacer are what time moves. -/
theorem anIdleStepLetsOneBitTimePass : Obligations.AnIdleStepLetsOneBitTimePass := by
  refine ⟨fun s hp => step_nil s hp, fun d s hs => ?_, Phase.after_eq, fun s time hrun hlow hhigh => ?_⟩
  · obtain ⟨htimer, -⟩ := hs
    rw [State.passTime, Sbi.passTime, Meter.passTime, max_eq_left htimer, State.epochBitTimes_eq]
  · have htimer : s.sbi.timer ≤ s.epochBitTimes := s.epochBitTimes_eq ▸ hlow.trans hhigh
    have hreach : min (s.sbi.timer + (time - s.sbi.timer)) (100 * s.plan.epochLength) = time := by omega
    rw [State.advanceTo, State.passTime, Sbi.passTime, Meter.passTime, max_eq_left htimer, State.epochBitTimes_eq, if_pos hrun]
    dsimp only
    rw [hreach]

/-- Settles O3: the reset values. -/
theorem resetLeavesTheSpecifiedValues : Obligations.ResetLeavesTheSpecifiedValues := by
  have hentry (k : StationNo) : State.reset.census.entry k = PeerEntry.reset := by
    simp [State.reset, Census.entry, Census.reset]
  refine ⟨by decide, by decide, ⟨fun k => ?_, by decide, by decide, by decide⟩, by decide +kernel, by decide, by decide,
    by decide, by decide, by decide +kernel⟩
  rw [hentry]
  exact ⟨rfl, rfl, rfl, rfl⟩

/-- A transaction that is idle stays so: bytes and an end change nothing. -/
theorem State.portByte_idle {t : State} (h : t.mgmt.transaction = .idle) (bytes : List Byte) :
    bytes.foldl State.portByte t = t := by
  induction bytes with
  | nil => rfl
  | cons b bytes ih =>
    have hb : t.portByte b = t := by rw [State.portByte, h]
    rw [List.foldl_cons, hb, ih]

/-- Settles O4: the three resets, and what a transaction that began before finds. -/
theorem resetsStartALoad : Obligations.ResetsStartALoad := by
  intro straps s
  have hrestart (h : s.resetLow = false) := exec_restart_checkedFrame straps s h
  refine ⟨rfl, rfl, fun h => ⟨by simp [State.cfgClockHeldLow, h], fun g => ?_⟩, fun h => ?_, hrestart,
    fun sync offByte bytes t h hc => ?_⟩
  · change Host.Outcome.next (if s.loader.phase = .idle ∨ s.resetLow = true then s else _) = _
    rw [if_pos (.inr h)]
  · change Host.Outcome.next (if s.resetLow = true then _ else s) = _
    rw [if_pos h]
    rfl
  · have hidle : t.mgmt.transaction = .idle := by
      obtain ⟨c, hmem, hexec⟩ := hc
      simp only [List.mem_cons, List.not_mem_nil, or_false] at hmem
      obtain rfl | rfl | rfl := hmem
      · exact Host.Outcome.next.inj hexec ▸ rfl
      · exact Host.Outcome.next.inj hexec ▸ rfl
      · exact Host.Outcome.next.inj ((hrestart h).symm.trans hexec) ▸ rfl
    exact ⟨hidle, State.portByte_idle hidle bytes, by rw [State.portAcknowledges, hidle], by rw [State.portEnd, hidle]⟩

end Sys2Proof.Machine

/-! PROOF. The descriptor link and the pacer (R133, R135 to R142, R154 to R158, R174). -/

namespace Sys2Proof.Machine

open Sys2Proof

/-! ### Offers -/

theorem exec_offer (tag : Tag) (target cls : Byte) (length : BitVec 16) {s : State} (h : s.resetLow = false) :
    exec (.offer tag target cls length) s = .next (s.answerOffer tag target cls length) := by
  change execOffer tag target cls length s = _
  simp [execOffer, h]

/-- A refusal is sent and counted, and sets STORE_FULL when it is one for room (R139). -/
theorem State.refuseOffer_eq (s : State) (tag : Tag) (reason : RefusalReason) :
    s.refuseOffer tag reason = { s with
      sent := s.sent ++ [.refused tag reason]
      mgmt := { s.mgmt with
        flags := if reason.forRoom then s.mgmt.flags ||| eventBit .storeFull else s.mgmt.flags
        counters := { s.mgmt.counters with offersRefused := min (s.mgmt.counters.offersRefused + 1) 4294967295 } } } := by
  cases reason <;> rfl

theorem State.answerOffer_refused {s : State} {tag : Tag} {target cls : Byte} {length : BitVec 16} {reason : RefusalReason}
    (h : s.judgeOffer tag target cls length = .refused reason) :
    s.answerOffer tag target cls length = s.refuseOffer tag reason := by
  rw [State.answerOffer, h]

theorem State.judgeOffer_of_refusal {s : State} {tag : Tag} {target cls : Byte} {length : BitVec 16}
    {reason : RefusalReason} (h : offerRefusal s.ctl.station = some reason) :
    s.judgeOffer tag target cls length = .refused reason := by
  rw [State.judgeOffer, h]

theorem TrafficClass.ofByte_eq_none {b : Byte} (h : ¬ b.toNat ≤ 2) : TrafficClass.ofByte b = none := by
  have h0 : b ≠ 0 := fun hb => h (by simp [hb])
  have h1 : b ≠ 1 := fun hb => h (by simp [hb])
  have h2 : b ≠ 2 := fun hb => h (by simp [hb])
  rw [TrafficClass.ofByte, if_neg h0, if_neg h1, if_neg h2]

/-- An offer out of range has no descriptor (R137). -/
theorem offeredDescriptor_eq_none {targets : Nat} {tag : Tag} {target cls : Byte} {length : BitVec 16}
    (h : ¬ (target.toNat < targets ∧ cls.toNat ≤ 2 ∧ 64 ≤ length.toNat ∧ length.toNat ≤ 9216)) :
    offeredDescriptor targets tag target cls length = none := by
  by_cases hcls : cls.toNat ≤ 2
  · unfold offeredDescriptor
    split
    · rfl
    · split_ifs with h4 hrange
      · obtain ⟨ht, hlow, hhigh⟩ := hrange
        exact absurd ⟨ht, hcls, hlow, hhigh⟩ h
      · rfl
      · rfl
  · rw [offeredDescriptor, TrafficClass.ofByte_eq_none hcls]

theorem offeredDescriptor_eq_some {targets : Nat} (tag : Tag) {target cls : Byte} {length : BitVec 16} {t : Fin 4}
    {k : TrafficClass} (ht : target.toNat = t.val) (hk : TrafficClass.ofByte cls = some k) (htargets : target.toNat < targets)
    (hlow : 64 ≤ length.toNat) (hhigh : length.toNat ≤ 9216) :
    offeredDescriptor targets tag target cls length =
      some { tag := tag, target := t, cls := k, length := length.toNat, cells := cellsOf length.toNat, age := 0 } := by
  have h4 : target.toNat < 4 := ht ▸ t.isLt
  have hfin : (⟨target.toNat, h4⟩ : Fin 4) = t := Fin.ext ht
  rw [offeredDescriptor, hk]
  dsimp only
  rw [dif_pos h4, if_pos ⟨htargets, hlow, hhigh⟩, hfin]

theorem offerRefusal_of_serving {st : StationState}
    (h : st = .listening ∨ st = .joining ∨ st = .active ∨ st = .resync) : offerRefusal st = none := by
  obtain rfl | rfl | rfl | rfl := h <;> rfl

theorem offerRefusal_of_not_serving {st : StationState} (hl : st ≠ .leaving)
    (h : ¬ (st = .listening ∨ st = .joining ∨ st = .active ∨ st = .resync)) : offerRefusal st = some .notServing := by
  cases st <;> simp_all [offerRefusal]

/-- Settles O46: the six checks in their order. -/
theorem offersPassSixChecks : Obligations.OffersPassSixChecks := by
  intro tag target cls length s hreset _
  simp only [exec_offer tag target cls length hreset]
  refine ⟨fun hst => ?_, fun hst hserving => ?_, fun hserving hrange => ?_, fun t k hserving hrange ht hk => ?_⟩
  · rw [State.answerOffer_refused (State.judgeOffer_of_refusal (by rw [hst]; rfl)), State.refuseOffer_eq]
    rfl
  · rw [State.answerOffer_refused (State.judgeOffer_of_refusal (offerRefusal_of_not_serving hst hserving)),
      State.refuseOffer_eq]
    rfl
  · have hjudge : s.judgeOffer tag target cls length = .refused .badField := by
      rw [State.judgeOffer, offerRefusal_of_serving hserving, offeredDescriptor_eq_none hrange]
    rw [State.answerOffer_refused hjudge, State.refuseOffer_eq]
    rfl
  · obtain ⟨htargets, -, hlow, hhigh⟩ := hrange
    have hjudge : s.judgeOffer tag target cls length = s.roomVerdict
        { tag := tag, target := t, cls := k, length := length.toNat, cells := cellsOf length.toNat, age := 0 } := by
      rw [State.judgeOffer, offerRefusal_of_serving hserving, offeredDescriptor_eq_some tag ht hk htargets hlow hhigh]
    have hcapacity : Config.storeCapacity = 512 := rfl
    simp only [State.roomVerdict, hcapacity] at hjudge
    have htag (h : ¬ ∃ d ∈ s.store.held, d.tag = tag) : ¬ s.store.hasTag tag = true := mt (s.store.hasTag_iff tag).mp h
    refine ⟨fun hp => ?_, fun hp hheld => ?_, fun hp hheld hfull => ?_, fun hp hheld hroom hlimit => ?_,
      fun hp hheld hroom hlimit => ?_⟩
    · rw [if_pos hp] at hjudge
      rw [State.answerOffer_refused hjudge, State.refuseOffer_eq]
      rfl
    · rw [if_neg hp, if_pos ((s.store.hasTag_iff tag).mpr hheld)] at hjudge
      rw [State.answerOffer_refused hjudge, State.refuseOffer_eq]
      rfl
    · rw [if_neg hp, if_neg (htag hheld), if_pos hfull] at hjudge
      rw [State.answerOffer_refused hjudge, State.refuseOffer_eq]
      rfl
    · rw [if_neg hp, if_neg (htag hheld), if_neg (Nat.not_le.mpr hroom), if_pos hlimit] at hjudge
      rw [State.answerOffer_refused hjudge, State.refuseOffer_eq]
      rfl
    · rw [if_neg hp, if_neg (htag hheld), if_neg (Nat.not_le.mpr hroom), if_neg (Nat.not_le.mpr hlimit)] at hjudge
      rw [State.answerOffer, hjudge]
      rfl

/-! ### Messages of no meaning -/

theorem exec_linkMessageDiscard (bytes : List Byte) (s : State) :
    exec (.linkMessageDiscard bytes) s = .next (if s.resetLow then s
      else match InMessage.ofBytes bytes with
        | none => s
        | some (.offer tag target cls length) => s.answerOffer tag target cls length
        | some (.recall tag) => s.answerRecall tag
        | some (.occupancy target cells) => s.takeReport target cells) := rfl

theorem exec_linkMessageDiscard_of_none {bytes : List Byte} (h : InMessage.ofBytes bytes = none) (s : State) :
    exec (.linkMessageDiscard bytes) s = .next s := by
  rw [exec_linkMessageDiscard, h]
  exact congrArg _ (ite_self s)

theorem byteAt_zero {bytes : List Byte} {b : Byte} (hlength : bytes.length ≠ 0) (h : byteAt bytes 0 = b) :
    bytes.head? = some b := by
  cases bytes with
  | nil => exact absurd rfl hlength
  | cons x bytes => exact congrArg some h

/-- Settles O50: the type and the byte count decide. -/
theorem otherMessagesAreDiscarded : Obligations.OtherMessagesAreDiscarded := by
  refine ⟨fun bytes s h1 h2 h3 => exec_linkMessageDiscard_of_none ?_ s, fun tag target cls length cells s => ?_, fun tag => ?_,
    rfl, rfl, rfl⟩
  · have hno (n : Nat) (b : Byte) (hn : n ≠ 0) (h : bytes.head? = some b → bytes.length ≠ n) :
        ¬ (bytes.length = n ∧ byteAt bytes 0 = b) :=
      fun ⟨hlength, hb⟩ => h (byteAt_zero (hlength ▸ hn) hb) hlength
    rw [InMessage.ofBytes, if_neg (hno 7 _ (by decide) h1), if_neg (hno 3 _ (by decide) h2), if_neg (hno 4 _ (by decide) h3)]
  · have hword (x : BitVec 16) (before after : List Byte) := word16At_bytes16 x before after
    simp only [← bytes16_eq]
    have hoffer : InMessage.ofBytes ([0x01] ++ bytes16 tag ++ [target, cls] ++ bytes16 length) =
        some (.offer tag target cls length) := by
      have htag : word16At ([0x01] ++ bytes16 tag ++ [target, cls] ++ bytes16 length) 1 = tag := by
        rw [List.append_assoc ([0x01] ++ bytes16 tag)]
        exact hword tag [0x01] ([target, cls] ++ bytes16 length)
      have hlength : word16At ([0x01] ++ bytes16 tag ++ [target, cls] ++ bytes16 length) 5 = length := by
        rw [← List.append_nil (_ ++ bytes16 length)]
        exact hword length ([0x01] ++ bytes16 tag ++ [target, cls]) []
      rw [InMessage.ofBytes, htag, hlength]
      rfl
    have hrecall : InMessage.ofBytes ([0x02] ++ bytes16 tag) = some (.recall tag) := by
      have htag : word16At ([0x02] ++ bytes16 tag) 1 = tag := hword tag [0x02] []
      rw [InMessage.ofBytes, htag]
      rfl
    have hreport : InMessage.ofBytes ([0x03, target] ++ bytes16 cells) = some (.occupancy target cells) := by
      have hcells : word16At ([0x03, target] ++ bytes16 cells) 2 = cells := hword cells [0x03, target] []
      rw [InMessage.ofBytes, hcells]
      rfl
    refine ⟨?_, ?_, ?_⟩
    · rw [exec_linkMessageDiscard, hoffer]
      rfl
    · rw [exec_linkMessageDiscard, hrecall]
      rfl
    · rw [exec_linkMessageDiscard, hreport]
      rfl
  · simp only [← bytes16_eq]
    exact ⟨rfl, fun _ => rfl, rfl, fun _ => rfl, rfl, rfl, rfl⟩

/-! ### A pacer step -/

theorem exec_pacerStep_running {s : State} (h : s.meter.running = true) : exec .pacerStep s = .next s.reachStep.pace := by
  change execPacerStep s = _
  rw [execPacerStep, if_pos h]

section
variable {s : State} {slot : RingSlot}

theorem State.pace_slot (hslot : s.settings.ring[s.meter.position]? = some slot) (hhalt : s.meter.halt = false) :
    s.pace = (s.visit slot).modMeter fun m => m.advance slot s.settings.ring.length := by
  rw [State.pace, if_neg (by simp [hhalt]), hslot]

/-- A visit of a slot that is skipped, or whose queue or credit is empty, does nothing (R155). -/
theorem State.visit_none (h : slot.skip = true ∨ s.store.queues[queueIndex slot.target slot.cls] = []
    ∨ s.meter.credits[queueIndex slot.target slot.cls] ≤ 0) : s.visit slot = s := by
  by_cases hskip : slot.skip = true
  · rw [State.visit, if_pos hskip]
  · rw [State.visit, if_neg hskip]
    split
    · rfl
    next hq =>
      refine if_neg fun hcredit => ?_
      obtain h | h | h := h
      · exact hskip h
      · exact absurd (hq.symm.trans h) (by simp)
      · exact absurd hcredit (not_lt.mpr h)

theorem State.visit_release {d : Descriptor} {rest : List Descriptor} (hskip : slot.skip = false)
    (hq : s.store.queues[queueIndex slot.target slot.cls] = d :: rest)
    (hcredit : 0 < s.meter.credits[queueIndex slot.target slot.cls]) :
    s.visit slot = (s.chargeRelease (queueIndex slot.target slot.cls) d).reportRelease := by
  rw [State.visit, if_neg (by simp [hskip]), hq]
  exact if_pos hcredit

/-- A drain counted one release on (R105). -/
def State.drainCounted (s : State) : State := s.modCtl fun c => { c with drainProgress := satInc 4095 c.drainProgress }

/-- Whether a release ends the drain: at the drain count, or at the last descriptor (R106). -/
def State.drainEnds (s : State) : Prop :=
  (s.ctl.drainCount ≠ 0 ∧ s.ctl.drainProgress = s.ctl.drainCount) ∨ s.store.held = []

theorem State.reportRelease_of_not_leaving (h : s.ctl.station ≠ .leaving) : s.reportRelease = s := by
  rw [State.reportRelease, if_neg h]

/-- A release in Leaving (R105, R106). -/
theorem State.reportRelease_of_leaving (h : s.ctl.station = .leaving) :
    (s.drainCounted.drainEnds → s.reportRelease = s.drainCounted.endDrain)
      ∧ (¬ s.drainCounted.drainEnds → s.reportRelease = s.drainCounted) := by
  have hreport : s.reportRelease = if s.drainCounted.ctl.drainCount ≠ 0
      ∧ s.drainCounted.ctl.drainProgress = s.drainCounted.ctl.drainCount then s.drainCounted.endDrain
      else s.drainCounted.endDrainIfEmpty := by
    rw [State.reportRelease, if_pos h]
    rfl
  rw [hreport]
  refine ⟨fun hends => ?_, fun hnot => ?_⟩
  · obtain hcount | hempty := hends
    · rw [if_pos hcount]
    · split_ifs
      · rfl
      · exact s.drainCounted.endDrainIfEmpty_of_held_nil h hempty
  · obtain ⟨hcount, hempty⟩ := not_or.mp hnot
    rw [if_neg hcount]
    exact s.drainCounted.endDrainIfEmpty_of_not fun h => hempty h.2

/-- The release that a pacer step makes, time to the step included: the head of a queue released and charged (R141, R158). -/
def State.paced (s : State) (q : Fin 12) (d : Descriptor) : State := s.reachStep.chargeRelease q d

/-- What a pacer step releases (R155). -/
theorem exec_pacerStep_release {d : Descriptor} {rest : List Descriptor} (hrun : s.meter.running = true)
    (hslot : s.settings.ring[s.meter.position]? = some slot) (hhalt : s.meter.halt = false) (hskip : slot.skip = false)
    (hq : s.store.queues[queueIndex slot.target slot.cls] = d :: rest)
    (hcredit : 0 < s.meter.credits[queueIndex slot.target slot.cls]) :
    exec .pacerStep s = .next ((s.paced (queueIndex slot.target slot.cls) d).reportRelease.modMeter fun m =>
      m.advance slot s.settings.ring.length) := by
  rw [exec_pacerStep_running hrun, State.paced]
  have hreach := s.reachStep_eq hrun
  have hslot' : s.reachStep.settings.ring[s.reachStep.meter.position]? = some slot := by rw [hreach]; exact hslot
  have hhalt' : s.reachStep.meter.halt = false := by rw [hreach]; exact hhalt
  have hq' : s.reachStep.store.queues[queueIndex slot.target slot.cls] = d :: rest := by rw [hreach]; exact hq
  have hcredit' : 0 < s.reachStep.meter.credits[queueIndex slot.target slot.cls] := by rw [hreach]; exact hcredit
  have hring : s.reachStep.settings.ring.length = s.settings.ring.length := by rw [hreach]; rfl
  rw [State.pace_slot hslot' hhalt', State.visit_release hskip hq' hcredit', hring]

theorem State.paced_eq (hrun : s.meter.running = true) (q : Fin 12) (d : Descriptor) : s.paced q d =
    { s.passTime (s.settings.stepInterval - s.meter.sinceStep) with
      store := s.store.release q d
      sent := s.sent ++ [.release d.tag]
      mgmt := { s.mgmt with counters := { s.mgmt.counters with releases := countUp 1 s.mgmt.counters.releases } }
      meter := { s.meter with credits := s.meter.credits.set q (s.meter.credits[q] - d.cells)
                              sinceStep := s.meter.sinceStep - s.settings.stepInterval } } := by
  rw [State.paced, s.reachStep_eq hrun]
  rfl

end

/-- Time moves the timer and the phase alone. -/
theorem Sbi.passTime_eq (b : Sbi) (limit d : Nat) :
    b.passTime limit d = { b with timer := (b.passTime limit d).timer, phase := (b.passTime limit d).phase } := by
  unfold Sbi.passTime
  split_ifs <;> rfl

theorem Sbi.passTime_seq (b : Sbi) (limit d : Nat) : (b.passTime limit d).seq = b.seq := by
  rw [Sbi.passTime_eq]

theorem Sbi.passTime_running (b : Sbi) (limit d : Nat) : (b.passTime limit d).running = b.running := by
  rw [Sbi.passTime_eq]

/-- A step that releases in Leaving: the drain counted, and ended if the release ends it (R105, R106, R159). -/
theorem exec_pacerStep_leaving {s : State} {slot : RingSlot} {d : Descriptor} {rest : List Descriptor}
    (hrun : s.meter.running = true) (hslot : s.settings.ring[s.meter.position]? = some slot) (hhalt : s.meter.halt = false)
    (hskip : slot.skip = false) (hq : s.store.queues[queueIndex slot.target slot.cls] = d :: rest)
    (hcredit : 0 < s.meter.credits[queueIndex slot.target slot.cls]) (hst : s.ctl.station = .leaving) :
    let u := (s.paced (queueIndex slot.target slot.cls) d).drainCounted
    ∃ v, exec .pacerStep s = .next (v.modMeter fun m => m.advance slot s.settings.ring.length)
      ∧ ((u.drainEnds ∧ v = u.endDrain) ∨ (¬ u.drainEnds ∧ v = u)) := by
  intro u
  have hleaving : (s.paced (queueIndex slot.target slot.cls) d).ctl.station = .leaving := by
    rw [State.paced_eq hrun]
    exact hst
  obtain ⟨hends, hnot⟩ := State.reportRelease_of_leaving hleaving
  refine ⟨_, exec_pacerStep_release hrun hslot hhalt hskip hq hcredit, ?_⟩
  by_cases h : u.drainEnds
  · exact .inl ⟨h, hends h⟩
  · exact .inr ⟨h, hnot h⟩

theorem Store.release_history (st : Store) (q : Fin 12) (d : Descriptor) : (st.release q d).history =
    (if st.history.length < 64 then st.history else st.history.drop 1) ++ [d.tag] := by
  simp only [Store.release, List.drop_one]
  rfl

/-- Settles O51: the slot at the position, what it releases, and the drain it may end. -/
theorem pacerStepVisitsTheSlot : Obligations.PacerStepVisitsTheSlot := by
  refine ⟨fun s hrun => ?_, fun slot s hrun hslot => ?_⟩
  · change execPacerStep s = _
    rw [execPacerStep, if_neg (by simp [hrun])]
  · have hreach := s.reachStep_eq hrun
    have hslot' : s.reachStep.settings.ring[s.reachStep.meter.position]? = some slot := by rw [hreach]; exact hslot
    refine ⟨fun hhalt => ?_, fun hhalt hnone => ?_, fun d rest hhalt hskip hq hcredit => ⟨fun hst => ?_, fun hst => ?_⟩⟩
    · rw [exec_pacerStep_running hrun, State.pace, if_pos (by rw [hreach]; exact hhalt), hreach]
      rfl
    · rw [exec_pacerStep_running hrun, State.pace_slot hslot' (by rw [hreach]; exact hhalt),
        State.visit_none (by rw [hreach]; exact hnone), hreach]
      simp only [State.modMeter, Meter.advance, hhalt, Bool.false_or]
      rfl
    · rw [exec_pacerStep_release hrun hslot hhalt hskip hq hcredit,
        State.reportRelease_of_not_leaving (by rw [State.paced_eq hrun]; exact hst), State.paced_eq hrun]
      simp only [State.modMeter, Meter.advance, hhalt, Bool.false_or, Store.release, hq, List.tail_cons, List.drop_one]
      rfl
    · obtain ⟨v, hexec, hv⟩ := exec_pacerStep_leaving hrun hslot hhalt hskip hq hcredit hst
      have hrest : (s.store.release (queueIndex slot.target slot.cls) d).queues[queueIndex slot.target slot.cls] = rest := by
        simp [Store.release, hq]
      rw [State.paced_eq hrun] at hv
      refine ⟨_, hexec, ?_⟩
      have hstop : (s.meter.halt || slot.stop) = slot.stop := by rw [hhalt, Bool.false_or]
      have hhistory := s.store.release_history (queueIndex slot.target slot.cls) d
      obtain ⟨-, rfl⟩ | ⟨-, rfl⟩ := hv
      · rw [State.endDrain_eq]
        refine ⟨hstop, rfl, rfl, rfl, .inr ⟨rfl, by simp [Store.empty, State.modMeter]⟩, .inr ⟨rfl, ?_⟩,
          hhistory, ?_, ?_⟩
        · simp [State.drainCounted, State.modCtl, State.modMeter, Meter.advance, Meter.enter, releases, dropsCredit]
        · simp only [State.modMeter, Mgmt.raiseIf_counters]
          rfl
        · simp [State.modMeter, State.drainCounted, State.modCtl, List.take_append]
      · exact ⟨hstop, rfl, rfl, rfl, .inl hrest, .inl (by simp [State.drainCounted, State.modCtl, State.modMeter, Meter.advance]),
          hhistory, rfl, by simp [State.drainCounted, State.modCtl, State.modMeter]⟩

/-- A release in Leaving, and the end of the drain that it may make (R105, R106, R109, R110, R159). -/
theorem exec_pacerStep_drain {s : State} {slot : RingSlot} {d : Descriptor} {rest : List Descriptor}
    (hrun : s.meter.running = true) (hslot : s.settings.ring[s.meter.position]? = some slot) (hhalt : s.meter.halt = false)
    (hskip : slot.skip = false) (hq : s.store.queues[queueIndex slot.target slot.cls] = d :: rest)
    (hcredit : 0 < s.meter.credits[queueIndex slot.target slot.cls]) (hst : s.ctl.station = .leaving) :
    let progress := min (s.ctl.drainProgress + 1) 4095
    let left := (s.store.release (queueIndex slot.target slot.cls) d).held
    let ends := (s.ctl.drainCount ≠ 0 ∧ progress = s.ctl.drainCount) ∨ left = []
    ∃ t, exec .pacerStep s = .next t ∧ t.ctl.drainProgress = progress ∧ t.ctl.drainCount = s.ctl.drainCount
      ∧ t.ctl.drainEpochs = s.ctl.drainEpochs ∧ t.mgmt.response = s.mgmt.response ∧ s.exitFrame t
      ∧ (¬ ends → t.ctl.station = .leaving ∧ t.sent = s.sent ++ [.release d.tag] ∧ t.store.held = left
          ∧ t.ctl.queue = s.ctl.queue ∧ t.meter.running = true ∧ t.mgmt.flags = s.mgmt.flags
          ∧ t.mgmt.counters.expiries = s.mgmt.counters.expiries)
      ∧ (ends → t.ctl.station = .quiet ∧ t.store.held = [] ∧ t.ctl.queue = [] ∧ t.meter.running = false
          ∧ t.sent = s.sent ++ .release d.tag :: left.map (fun (x : Descriptor) => LinkMessage.expired x.tag .depart)
          ∧ t.mgmt.counters.expiries = min (s.mgmt.counters.expiries + left.length) 4294967295
          ∧ t.mgmt.flag .expired = (s.mgmt.flag .expired || !left.isEmpty)
          ∧ t.mgmt.flag .dirDrop = (s.mgmt.flag .dirDrop || !s.ctl.queue.isEmpty)
          ∧ ∀ i : Fin 12, t.meter.credits[i] ≤ 0) := by
  intro progress left ends
  obtain ⟨v, hexec, hv⟩ := exec_pacerStep_leaving hrun hslot hhalt hskip hq hcredit hst
  rw [State.paced_eq hrun] at hv
  refine ⟨_, hexec, ?_⟩
  obtain ⟨hends, rfl⟩ | ⟨hends, rfl⟩ := hv
  · rw [State.endDrain_eq]
    refine ⟨rfl, rfl, rfl, ?_, ?_, fun h => absurd hends h, fun _ => ⟨rfl, Store.held_empty _, rfl, rfl, ?_, ?_, ?_, ?_, ?_⟩⟩
    · simp only [State.modMeter, Mgmt.raiseIf_response]
      rfl
    · simp only [State.exitFrame, State.modMeter, Mgmt.raiseIf_transaction, Mgmt.raiseIf_mask, Mgmt.raiseIf_checkMode,
        Mgmt.raiseIf_bus, Mgmt.raiseIf_agreement, Mgmt.raiseIf_directive, Mgmt.raiseIf_config]
      refine ⟨⟨rfl, rfl, rfl, ?_, ?_⟩, ⟨rfl, rfl, rfl, rfl, rfl, rfl, rfl, rfl⟩, rfl, rfl, rfl, rfl, rfl, rfl, rfl⟩
      · exact s.sbi.passTime_seq _ _
      · exact s.sbi.passTime_running _ _
    · exact List.append_assoc _ _ _
    · simp only [State.modMeter, Mgmt.raiseIf_counters]
      rfl
    · simp only [State.modMeter]
      rw [Mgmt.flag_raiseIf_ne _ _ _ (by decide), Mgmt.flag_raiseIf_self]
      rfl
    · simp only [State.modMeter]
      rw [Mgmt.flag_raiseIf_self, Mgmt.flag_raiseIf_ne _ _ _ (by decide)]
      rfl
    · exact fun i => Meter.enter_nonpos (st := .quiet) rfl rfl _ i
  · refine ⟨rfl, rfl, rfl, rfl, ?_, fun _ => ⟨hst, rfl, rfl, rfl, hrun, rfl, rfl⟩, fun h => absurd h hends⟩
    exact ⟨⟨rfl, rfl, rfl, s.sbi.passTime_seq _ _, s.sbi.passTime_running _ _⟩,
      ⟨rfl, rfl, rfl, rfl, rfl, rfl, rfl, rfl⟩, rfl, rfl, rfl, rfl, rfl, rfl, rfl⟩

end Sys2Proof.Machine

/-! PROOF. The management port: a frame with its check byte right, the clear commands, the event mask, and the posting of a
directive. -/

namespace Sys2Proof.Machine

open Sys2Proof

/-! ### Frames taken -/

/-- A frame with its check byte right, its parameters in number and its command served runs the command (R162). -/
theorem State.receiveFrame_checkedFrame {s : State} (c : Command) (p : List Byte)
    (run : Command → List Byte → State → State) (hp : p.length = c.parameters) (hreset : s.resetLow = false)
    (hserved : s.ctl.station ≠ .booting ∨ c.inBooting p = true) :
    s.receiveFrame (frameBytes c (checkedFrame s c p)) false run = run c p s := by
  have hjudge : s.judgeFrame (frameBytes c (checkedFrame s c p)) false = .taken c p := by
    refine (judge_checkedFrame s _ _ c p hp).trans (if_neg ?_)
    obtain hb | hb := hserved <;> simp [hb]
  rw [State.receiveFrame, if_pos (s.addressed_checkedFrame c p hreset), hjudge]

section
variable {s : State}

theorem exec_readView_checkedFrame {p : List Byte} (hp : p.length = 4) (hreset : s.resetLow = false)
    (hserved : s.ctl.station ≠ .booting ∨ p.head? = some 0) :
    exec (.readView (checkedFrame s .readView p)) s = .next (s.readView p) :=
  congrArg Host.Outcome.next (State.receiveFrame_checkedFrame .readView p _ hp hreset
    (hserved.imp_right fun h => by simp [Command.inBooting, h]))

variable (hreset : s.resetLow = false) (hboot : s.ctl.station ≠ .booting)
include hreset hboot

theorem exec_clearEvents_checkedFrame {p : List Byte} (hp : p.length = 2) :
    exec (.clearEvents (checkedFrame s .clearEvents p)) s = .next (s.clearEvents p) :=
  congrArg Host.Outcome.next (State.receiveFrame_checkedFrame .clearEvents p _ hp hreset (.inl hboot))

theorem exec_setEventMask_checkedFrame {p : List Byte} (hp : p.length = 2) :
    exec (.setEventMask (checkedFrame s .setEventMask p)) s = .next (s.setEventMask p) :=
  congrArg Host.Outcome.next (State.receiveFrame_checkedFrame .setEventMask p _ hp hreset (.inl hboot))

theorem exec_clearCaptures_checkedFrame {p : List Byte} (hp : p.length = 1) :
    exec (.clearCaptures (checkedFrame s .clearCaptures p)) s = .next (s.clearCaptures p) :=
  congrArg Host.Outcome.next (State.receiveFrame_checkedFrame .clearCaptures p _ hp hreset (.inl hboot))

theorem exec_clearCounters_checkedFrame :
    exec (.clearCounters (checkedFrame s .clearCounters [])) s = .next s.clearCounters :=
  congrArg Host.Outcome.next (State.receiveFrame_checkedFrame .clearCounters [] _ rfl hreset (.inl hboot))

theorem exec_postDirective_checkedFrame {p : List Byte} (hp : p.length = 4) :
    exec (.postDirective (checkedFrame s .postDirective p)) s = .next (s.postDirective p) :=
  congrArg Host.Outcome.next (State.receiveFrame_checkedFrame .postDirective p _ hp hreset (.inl hboot))

theorem exec_depart_checkedFrame {p : List Byte} (hp : p.length = 2) :
    exec (.depart (checkedFrame s .depart p)) s = .next (s.depart p) :=
  congrArg Host.Outcome.next (State.receiveFrame_checkedFrame .depart p _ hp hreset (.inl hboot))

theorem exec_rejoin_checkedFrame (sync : Level) :
    exec (.rejoin sync (checkedFrame s .rejoin [])) s = .next (s.rejoin sync) :=
  congrArg Host.Outcome.next (State.receiveFrame_checkedFrame .rejoin [] _ rfl hreset (.inl hboot))

end

/-! ### Event mask values -/

/-- The event mask value that a command's two bytes are. -/
theorem eventValue_bytes16 (x : BitVec 16) : eventValue (bytes16 x) = x.setWidth 14 := by
  have h := word16At_bytes16 x [] []
  simp only [List.nil_append, List.append_nil, List.length_nil] at h
  rw [eventValue, h]

theorem Event.bit_lt (e : Event) : e.bit < 14 := by cases e <;> decide

/-- Every bit of an event mask value is that of an event. -/
theorem exists_event_bit (i : Nat) (hi : i < 14) : ∃ e : Event, e.bit = i := by
  have h : ∀ i : Fin 14, ∃ e ∈ Event.all, e.bit = i.val := by decide
  obtain ⟨e, -, he⟩ := h ⟨i, hi⟩
  exact ⟨e, he⟩

/-! ### The mask -/

theorem eventBit_getLsbD (e f : Event) : (eventBit e).getLsbD f.bit = decide (f = e) := by
  cases e <;> cases f <;> decide

/-- ATTN, flag by flag (R12, R167). -/
theorem State.attn_iff (s : State) : s.attn = true ↔ s.resetLow = false
    ∧ ∃ e : Event, s.mgmt.flag e = true ∧ (s.mgmt.mask.getLsbD e.bit = false ∨ e = .failsafe) := by
  have hbits (e : Event) : (s.mgmt.flags &&& (~~~s.mgmt.mask ||| eventBit .failsafe)).getLsbD e.bit =
      (s.mgmt.flag e && (!s.mgmt.mask.getLsbD e.bit || decide (e = .failsafe))) := by
    simp only [BitVec.getLsbD_and, BitVec.getLsbD_or, BitVec.getLsbD_not, e.bit_lt, decide_true, Bool.true_and, Mgmt.flag,
      eventBit_getLsbD]
  have hany : (s.mgmt.flags &&& (~~~s.mgmt.mask ||| eventBit .failsafe)) ≠ 0 ↔
      ∃ e : Event, (s.mgmt.flags &&& (~~~s.mgmt.mask ||| eventBit .failsafe)).getLsbD e.bit = true := by
    constructor
    · intro hne
      by_contra hnone
      refine hne (BitVec.eq_of_getLsbD_eq fun i hi => ?_)
      obtain ⟨e, rfl⟩ := exists_event_bit i hi
      simpa using fun h => hnone ⟨e, h⟩
    · rintro ⟨e, he⟩ hzero
      simp [hzero] at he
  rw [State.attn, Bool.and_eq_true, Bool.not_eq_true', bne_iff_ne, hany]
  simp [hbits]

/-- Settles O41: a reset masks all, a load and a SET_EVENT_MASK write the mask, and no other command is more than a report or
a chain of moves, none of which writes it. -/
theorem theMaskDecidesAttn : Obligations.TheMaskDecidesAttn := by
  refine ⟨fun straps s c hc hreset => ?_, fun _ _ => rfl, fun mask s hreset hboot => ?_, fun c s t hexec => ?_,
    State.attn_iff⟩
  · simp only [List.mem_cons, List.not_mem_nil, or_false] at hc
    obtain rfl | rfl | rfl := hc
    · exact ⟨_, rfl, rfl⟩
    · exact ⟨_, rfl, rfl⟩
    · exact ⟨_, exec_restart_checkedFrame straps s hreset, rfl⟩
  · rw [exec_setEventMask_checkedFrame hreset hboot rfl, State.setEventMask, eventValue_bytes16]
    rfl
  · obtain ⟨-, -, hmask | hmask⟩ := exec_reaches hexec
    · right
      cases c <;> simp_all [writesMask]
    · exact .inl hmask

/-! ### Clear commands -/

/-- An event recorded: a cleared record takes it, and another counts it (R168). -/
theorem Capture.record_eq {α : Type} (c : Capture α) (e : α) (decided : Decidable (c.first = none)) : c.record e =
    if c.first = none then { first := some e, count := 1 } else { c with count := min (c.count + 1) 15 } := by
  obtain ⟨first, count⟩ := c
  cases first <;> simp [Capture.record, satInc]

theorem clearedFlags_getLsbD (flags held : BitVec 14) (named : BitVec 16) (e : Event) :
    (clearedFlags flags (named.setWidth 14) held).getLsbD e.bit =
      (flags.getLsbD e.bit && (!named.getLsbD e.bit || held.getLsbD e.bit)) := by
  have h := e.bit_lt
  have hbool (f n k : Bool) : (f && !(n && !k)) = (f && (!n || k)) := by cases n <;> cases k <;> rfl
  simp only [clearedFlags, BitVec.getLsbD_and, BitVec.getLsbD_not, BitVec.getLsbD_setWidth, h, decide_true, Bool.true_and,
    hbool]

theorem State.condition_stale_iff (s : State) :
    s.condition .stale = true ↔ ∃ t : Fin 4, t.val < s.plan.targets ∧ s.monitors[t].state = .stale := by
  have hall (t : Fin 4) : t ∈ allTargets := by fin_cases t <;> simp [allTargets]
  simp only [State.condition, List.any_eq_true, Bool.and_eq_true, beq_iff_eq, inUse, decide_eq_true_eq, hall, true_and]

/-- Settles O42. -/
theorem clearCommandsSpareWhatHolds : Obligations.ClearCommandsSpareWhatHolds := by
  refine ⟨fun named s hreset hboot => ⟨clearedFlags s.mgmt.flags (named.setWidth 14) s.conditions, ?_, fun e => ?_, rfl,
      beq_iff_eq, beq_iff_eq, beq_iff_eq, beq_iff_eq, s.condition_stale_iff, fun e he => ?_⟩,
    fun which s hreset hboot => exec_clearCaptures_checkedFrame hreset hboot rfl,
    fun s hreset hboot => exec_clearCounters_checkedFrame hreset hboot,
    fun c e => c.record_eq e _, fun c e => c.record_eq e _, fun c e => c.record_eq e _, fun c e => c.record_eq e _⟩
  · exact (exec_clearEvents_checkedFrame hreset hboot rfl).trans (by rw [State.clearEvents, eventValue_bytes16]; rfl)
  · rw [clearedFlags_getLsbD, s.conditions_getLsbD]
  · simp only [List.mem_cons, List.not_mem_nil, or_false] at he
    obtain rfl | rfl | rfl | rfl | rfl | rfl | rfl | rfl := he <;> rfl

/-! ### POST_DIRECTIVE -/

/-- Nothing is posted of a kind that no byte encodes. -/
theorem State.postedFrame_of_none (s : State) {p : List Byte} (h : DirectiveKind.ofByte (byteAt p 1) = none) :
    s.postedFrame p = none := by
  simp only [State.postedFrame, h]

/-- What is posted of the bytes of a POST_DIRECTIVE. -/
theorem State.postedFrame_of_some (s : State) {priority kind : Byte} {k : DirectiveKind} (operand : BitVec 16)
    (h : DirectiveKind.ofByte kind = some k) : s.postedFrame (priority :: kind :: bytes16 operand) =
      if priority.toNat ≤ 3 ∧ operandInRange s.plan.targets k operand then
        some { priority := priority.setWidth 2, sender := s.own, seq := s.ctl.nextSeq, kind := k, operand := operand }
      else none := by
  have hkind : DirectiveKind.ofByte (byteAt (priority :: kind :: bytes16 operand) 1) = some k := h
  have hoperand : word16At (priority :: kind :: bytes16 operand) 2 = operand := by
    simpa using word16At_bytes16 operand [priority, kind] []
  simp only [State.postedFrame, hkind, hoperand]
  rfl

theorem DirectiveKind.ofByte_eq_none_iff (b : Byte) : DirectiveKind.ofByte b = none ↔ b = 0 ∨ 3 < b.toNat := by
  have hall : ∀ b : Byte, DirectiveKind.ofByte b = none ↔ b = 0 ∨ 3 < b.toNat := by decide +kernel
  exact hall b

theorem DirectiveKind.ofByte_eq_some_iff (b : Byte) (k : DirectiveKind) : DirectiveKind.ofByte b = some k ↔ b = k.code := by
  have hall : ∀ b : Byte, DirectiveKind.ofByte b = some k ↔ b = k.code := by cases k <;> decide +kernel
  exact hall b

/-- Settles O43. -/
theorem postDirectiveChecksThenQueues : Obligations.PostDirectiveChecksThenQueues := by
  intro priority kind operand s hreset hboot
  simp only [exec_postDirective_checkedFrame hreset hboot
    (show (priority :: kind :: bytes16 operand).length = 4 from rfl)]
  have hroom (h : s.ctl.queue.length < 4) : ¬ Config.directiveQueueLength ≤ s.ctl.queue.length := Nat.not_le.mpr h
  have hfull (h : ¬ s.ctl.queue.length < 4) : Config.directiveQueueLength ≤ s.ctl.queue.length := Nat.not_lt.mp h
  have hrange (k : DirectiveKind) (hk : kind = k.code) : operandInRange s.plan.targets k operand = true ↔
      (kind = 1 → operandTarget operand < s.plan.targets ∧ operandPercent operand ≤ 100) := by
    cases k <;> simp [operandInRange, hk, DirectiveKind.code]
  refine ⟨fun ha => ?_, fun ha hr => ?_, fun ha hr hbad => ?_, fun k ha hr hpriority hkind hoperand => ?_⟩
  · rw [State.postDirective, if_pos ha]
    rfl
  · rw [State.postDirective, if_neg (not_not.mpr ha), if_pos (hfull hr)]
    rfl
  · have hposted : s.postedFrame (priority :: kind :: bytes16 operand) = none := by
      cases hk : DirectiveKind.ofByte kind with
      | none => exact s.postedFrame_of_none hk
      | some k =>
        rw [s.postedFrame_of_some operand hk]
        refine if_neg ?_
        rintro ⟨hpriority, hop⟩
        have hcode := (DirectiveKind.ofByte_eq_some_iff kind k).mp hk
        rw [hrange k hcode] at hop
        have hsome : ¬ (kind = 0 ∨ 3 < kind.toNat) := by
          rw [← DirectiveKind.ofByte_eq_none_iff, hk]
          simp
        obtain h | h | h | ⟨hone, h⟩ := hbad
        · omega
        · exact hsome (.inl h)
        · exact hsome (.inr h)
        · have := hop hone
          omega
    rw [State.postDirective, if_neg (not_not.mpr ha), if_neg (hroom hr), hposted]
    rfl
  · have hposted := (s.postedFrame_of_some (priority := priority) operand hkind).trans (if_pos ⟨hpriority,
      (hrange k ((DirectiveKind.ofByte_eq_some_iff kind k).mp hkind)).mpr hoperand⟩)
    rw [State.postDirective, if_neg (not_not.mpr ha), if_neg (hroom hr), hposted]
    rfl

end Sys2Proof.Machine

/-! PROOF. DEPART: what a frame on the line becomes at an entry that no longer permits it, and the drain begun. -/

namespace Sys2Proof.Machine

open Sys2Proof

/-! ### Frames cut short -/

section
variable {b : Sbi} {st : StationState}

theorem Sbi.releaseFor_readback_of_not_driving (h : b.readback ≠ .driving) : (b.releaseFor st).readback = b.readback := by
  simp [Sbi.releaseFor, h]

theorem Sbi.releaseFor_readback_of_none (h : b.txBuffer = none) : (b.releaseFor st).readback = b.readback := by
  by_cases hd : b.readback = .driving <;> simp [Sbi.releaseFor, h, hd]

/-- A state that sends no notice cuts one short (R19, R26). -/
theorem Sbi.releaseFor_readback_notice {n : Notice} (h : b.txBuffer = some (.notice n)) (hd : b.readback = .driving) :
    (b.releaseFor st).readback = if (noticeStatus st).isSome then .driving
      else if 565 + 400 * n.sender.toNat ≤ b.timer then .complete else .released := by
  have hoffset : slotStart n.sender + 365 = 565 + 400 * n.sender.toNat := by simp only [slotStart, bitTimes]; omega
  simp [Sbi.releaseFor, hd, h, Sbi.cutShort, Sbi.frameDriven, hoffset]

/-- A state other than Active cuts a Directive Frame short (R19, R30). -/
theorem Sbi.releaseFor_readback_directive {d : DirectiveFrame} (hst : st ≠ .active)
    (h : b.txBuffer = some (.directive d)) (hd : b.readback = .driving) :
    (b.releaseFor st).readback = if 6675 ≤ b.timer then .complete else .released := by
  have hdriven : b.frameDriven = decide (6675 ≤ b.timer) := by
    simp only [Sbi.frameDriven, h]
    rfl
  simp [Sbi.releaseFor, hd, h, hst, Sbi.cutShort, hdriven]

end

/-! ### The drain begun -/

/-- A station in Leaving, its drain begun, before its store is looked at (R104). -/
def State.drainBegun (s : State) (count : Nat) : State :=
  (s.enterState .leaving).modCtl fun c => { c with drainCount := count, drainProgress := 0, drainEpochs := 0 }

theorem State.beginDrain_of_held (s : State) (count : Nat) (h : s.store.held ≠ []) : s.beginDrain count = s.drainBegun count :=
  State.endDrainIfEmpty_of_not (s.drainBegun count) fun h' => h h'.2

theorem State.beginDrain_of_held_nil (s : State) (count : Nat) (h : s.store.held = []) :
    s.beginDrain count = (s.drainBegun count).endDrain :=
  State.endDrainIfEmpty_of_held_nil (s.drainBegun count) rfl h

theorem State.drainBegun_exitFrame (s : State) (count : Nat) : s.exitFrame (s.drainBegun count) :=
  ⟨⟨rfl, rfl, rfl, rfl, rfl⟩, ⟨rfl, rfl, rfl, rfl, rfl, rfl, rfl, rfl⟩, rfl, rfl, rfl, rfl, rfl, rfl, rfl⟩

theorem State.exitFrame.trans {s t u : State} (h : s.exitFrame t) (h' : t.exitFrame u) : s.exitFrame u := by
  simp only [State.exitFrame] at *
  simp [h, h']

theorem State.exitFrame.respond {s t : State} (h : s.exitFrame t) (status : Status) (data : List Byte) :
    s.exitFrame (t.respond status data) := h.trans
  ⟨⟨rfl, rfl, rfl, rfl, rfl⟩, ⟨rfl, rfl, rfl, rfl, rfl, rfl, rfl, rfl⟩, rfl, rfl, rfl, rfl, rfl, rfl, rfl⟩

/-- Settles O44. -/
theorem departBeginsTheDrain : Obligations.DepartBeginsTheDrain := by
  intro count s hreset hboot
  have hcount : nat16At (bytes16 count) 0 = count.toNat := by
    have h := word16At_bytes16 count [] []
    simp only [List.nil_append, List.append_nil, List.length_nil] at h
    rw [nat16At, h]
  have htaken (ha : s.ctl.station = .active) (hle : count.toNat ≤ 4095) :
      s.depart (bytes16 count) = (s.beginDrain count.toNat).respond .ok [] := by
    rw [State.depart, if_neg (not_not.mpr ha), hcount, if_neg (Nat.not_lt.mpr hle)]
  simp only [exec_depart_checkedFrame hreset hboot (show (bytes16 count).length = 2 from rfl)]
  refine ⟨fun ha => ?_, fun ha hlt => ?_, fun ha hle hheld => ?_, fun ha hle hheld => ?_⟩
  · rw [State.depart, if_pos ha]
    rfl
  · rw [State.depart, if_neg (not_not.mpr ha), hcount, if_pos hlt]
    rfl
  · rw [htaken ha hle, s.beginDrain_of_held _ hheld]
    refine ⟨(s.sbi.releaseFor .leaving).readback, ?_, fun d hd => ?_, fun hd => ?_⟩
    · have hsbi : s.sbi.releaseFor .leaving =
          { s.sbi with vetoDrive := false, readback := (s.sbi.releaseFor .leaving).readback } := by
        simp [Sbi.releaseFor, drivesSync]
      rw [← hsbi]
      rfl
    · by_cases hdriving : s.sbi.readback = .driving
      · rw [Sbi.releaseFor_readback_directive (by decide) hd hdriving]
        exact ⟨by split_ifs <;> decide, fun _ => rfl⟩
      · rw [Sbi.releaseFor_readback_of_not_driving hdriving]
        exact ⟨hdriving, fun h => absurd h hdriving⟩
    · by_cases hdriving : s.sbi.readback = .driving
      · cases htx : s.sbi.txBuffer with
        | none => exact Sbi.releaseFor_readback_of_none htx
        | some frame =>
          cases frame with
          | directive d => exact absurd htx (hd d)
          | notice n => rw [Sbi.releaseFor_readback_notice htx hdriving, hdriving]; rfl
      · exact Sbi.releaseFor_readback_of_not_driving hdriving
  · rw [htaken ha hle, s.beginDrain_of_held_nil _ hheld]
    obtain ⟨hsent, hdrop, -, -, hframe⟩ := (s.drainBegun count.toNat).endDrain_of_held_nil hheld
    have hsbi : (s.drainBegun count.toNat).endDrain.sbi = (s.sbi.releaseFor .leaving).releaseFor .quiet := by
      rw [State.endDrain_eq]
      rfl
    have hctl : (s.drainBegun count.toNat).endDrain.ctl = { (s.drainBegun count.toNat).ctl with
        station := .quiet, queue := [], awaiting := false } := by rw [State.endDrain_eq]
    have hmeter : (s.drainBegun count.toNat).endDrain.meter.running = false := by rw [State.endDrain_eq]; rfl
    refine ⟨_, rfl, congrArg Control.station hctl, congrArg Control.queue hctl, congrArg Control.drainCount hctl, hmeter,
      hsent, rfl, ?_, ?_, fun hany => ?_, fun d hd hdriving => ?_, fun n hn hdriving => ?_, hdrop, ?_,
      ((s.drainBegun_exitFrame _).trans hframe).respond _ _⟩
    · change (s.drainBegun count.toNat).endDrain.sbi.vetoDrive = false
      rw [hsbi]
      exact Sbi.releaseFor_vetoDrive _ _ (by decide)
    · change (s.drainBegun count.toNat).endDrain.sbi.syncDrive = .released
      rw [hsbi]
      rfl
    · change (s.drainBegun count.toNat).endDrain.sbi.readback ≠ .driving
      rw [hsbi]
      intro hdriving
      have hpermits : permitsFrame .quiet s.sbi.txBuffer = true := Sbi.releaseFor_readback (s.sbi.releaseFor .leaving) _ hdriving
      match htx : s.sbi.txBuffer with
      | none => exact hany htx
      | some (.notice n) => simp [htx, permitsFrame, noticeStatus] at hpermits
      | some (.directive d) => simp [htx, permitsFrame] at hpermits
    · change (s.drainBegun count.toNat).endDrain.sbi.readback = _
      rw [hsbi]
      have hcut := Sbi.releaseFor_readback_directive (st := .leaving) (by decide) hd hdriving
      rw [Sbi.releaseFor_readback_of_not_driving (by rw [hcut]; split_ifs <;> decide), hcut]
    · change (s.drainBegun count.toNat).endDrain.sbi.readback = _
      rw [hsbi]
      have hkept := Sbi.releaseFor_readback_notice (st := .leaving) hn hdriving
      exact Sbi.releaseFor_readback_notice (b := s.sbi.releaseFor .leaving) (st := .quiet) hn hkept
    · change (s.drainBegun count.toNat).endDrain.sbi.timer = _
      rw [hsbi]
      rfl

end Sys2Proof.Machine

/-! PROOF. What the management port makes of a frame (R162), and of the bytes of a transaction (R161). -/

namespace Sys2Proof.Machine

open Sys2Proof

/-! ### Command bytes -/

theorem Command.ofByte_code (c : Command) : Command.ofByte c.code = some c := by cases c <;> decide

theorem Command.ofByte_eq_none_iff (b : Byte) : Command.ofByte b = none ↔ b = 0 ∨ 9 < b.toNat := by
  have hall : ∀ b : Byte, Command.ofByte b = none ↔ b = 0 ∨ 9 < b.toNat := by decide +kernel
  exact hall b

theorem Command.exists_ofByte {b : Byte} (hne : b ≠ 0) (hle : b.toNat ≤ 9) : ∃ c, Command.ofByte b = some c := by
  refine Option.ne_none_iff_exists'.mp fun hnone => ?_
  obtain h | h := (Command.ofByte_eq_none_iff b).mp hnone
  · exact hne h
  · omega

/-- The parameter counts of R175, in the order of the command bytes. -/
theorem Command.parameters_of_ofByte {b : Byte} {c : Command} (h : Command.ofByte b = some c) :
    [4, 2, 2, 1, 0, 4, 2, 0, 0][b.toNat - 1]? = some c.parameters := by
  have hall : ∀ b : Byte, ∀ c ∈ Command.ofByte b, [4, 2, 2, 1, 0, 4, 2, 0, 0][b.toNat - 1]? = some c.parameters := by
    decide +kernel
  exact hall b c h

/-- RESTART and READ_VIEW of page 0 are served in Booting (R162). -/
theorem Command.inBooting_of_ofByte {b : Byte} {c : Command} (h : Command.ofByte b = some c) (p : List Byte) :
    c.inBooting p = true ↔ b = 0x09 ∨ (b = 0x01 ∧ p.head? = some 0) := by
  have hall : ∀ b : Byte, ∀ c ∈ Command.ofByte b, (b = 0x09 ↔ c = .restart) ∧ (b = 0x01 ↔ c = .readView) := by
    decide +kernel
  obtain ⟨hrestart, hread⟩ := hall b c h
  rw [hrestart, hread]
  cases c <;> simp [Command.inBooting]

/-! ### The steps of a judgement -/

section
variable {mode : CheckMode} {booting : Bool} {address command length : Byte} {rest : List Byte}

/-- Step 3: the byte count. -/
theorem judge_of_length (h : rest.length ≠ length.toNat) (h' : rest.length ≠ length.toNat + 1) :
    judge mode booting (address :: command :: length :: rest) false = .refused .badLength := by
  simp [judge, h, h']

/-- Step 4: the check byte. -/
theorem judge_of_check (h : rest.length = length.toNat ∨ rest.length = length.toNat + 1) {status : Status}
    (hcheck : checkRefusal mode rest[length.toNat]?
      (managementCheck (address :: command :: length :: rest.take length.toNat)) = some status) :
    judge mode booting (address :: command :: length :: rest) false = .refused status := by
  have hnot : ¬ (rest.length ≠ length.toNat ∧ rest.length ≠ length.toNat + 1) := by tauto
  simp only [judge, Bool.false_eq_true, if_false, if_neg hnot, hcheck]

/-- The byte where a check byte stands, if there is one. -/
theorem getElem?_check (h : rest.length = length.toNat) : rest[length.toNat]? = none := by simp [h]

theorem getElem?_check_of_succ (h : rest.length = length.toNat + 1) : rest[length.toNat]? = rest.getLast? := by
  rw [List.getLast?_eq_getElem?, h]
  rfl

theorem checkRefusal_of_good {computed : Byte} (h : (rest.length = length.toNat ∧ mode ≠ .required)
    ∨ (rest.length = length.toNat + 1 ∧ (mode = .off ∨ rest.getLast? = some computed))) :
    checkRefusal mode rest[length.toNat]? computed = none := by
  obtain ⟨hlength, hmode⟩ | ⟨hlength, rfl | hcheck⟩ := h
  · rw [getElem?_check hlength]
    cases mode with
    | required => exact absurd rfl hmode
    | _ => rfl
  · rfl
  · rw [getElem?_check_of_succ hlength, hcheck]
    cases mode <;> simp [checkRefusal]

theorem checkRefusal_of_wrong {computed b : Byte} (hmode : mode ≠ .off) (hb : b ≠ computed) :
    checkRefusal mode (some b) computed = some .badCheck := by
  cases mode <;> simp_all [checkRefusal]

/-- What the later steps make of a frame that passes the check. -/
theorem judge_of_good (h : rest.length = length.toNat ∨ rest.length = length.toNat + 1)
    (hcheck : checkRefusal mode rest[length.toNat]?
      (managementCheck (address :: command :: length :: rest.take length.toNat)) = none) :
    (Command.ofByte command = none →
      judge mode booting (address :: command :: length :: rest) false = .refused .unknownCommand)
    ∧ ∀ c, Command.ofByte command = some c → judge mode booting (address :: command :: length :: rest) false =
        if booting && !c.inBooting (rest.take length.toNat) then .refused .notReady
        else if length.toNat ≠ c.parameters then .refused .badLength else .taken c (rest.take length.toNat) := by
  have hnot : ¬ (rest.length ≠ length.toNat ∧ rest.length ≠ length.toNat + 1) := by tauto
  constructor
  · intro hnone
    simp only [judge, Bool.false_eq_true, if_false, if_neg hnot, hcheck, hnone]
  · intro c hc
    simp only [judge, Bool.false_eq_true, if_false, if_neg hnot, hcheck, hc]

/-- A check byte makes no difference where none is compared, nor the right one where one is (R162). -/
theorem judge_append_check (p : List Byte) (hp : p.length < 256) (b : Byte)
    (hmode : checkRefusal mode none 0 = none)
    (hb : mode = .off ∨ b = managementCheck (address :: command :: byte p.length :: p)) :
    judge mode booting (address :: command :: byte p.length :: p) false =
      judge mode booting (address :: command :: byte p.length :: (p ++ [b])) false := by
  have hlength : (byte p.length).toNat = p.length := by simp [byte]; omega
  have hnone : checkRefusal mode none (managementCheck (address :: command :: byte p.length :: p)) = none := by
    cases mode <;> simp_all [checkRefusal]
  have hsome : checkRefusal mode (some b) (managementCheck (address :: command :: byte p.length :: p)) = none := by
    cases mode <;> simp_all [checkRefusal]
  simp [judge, hlength, hnone, hsome]

end

/-- A frame that is taken under its own name is taken as that command. -/
theorem judge_frameBytes_taken {mode : CheckMode} {booting : Bool} {c c' : Command} {f : Frame} {p : List Byte}
    (h : judge mode booting (frameBytes c f) f.offByte = .taken c' p) : c' = c := by
  simp only [judge, frameBytes, c.ofByte_code] at h
  repeat' split at h
  all_goals cases h
  rfl

/-- So two meanings that agree on the named command agree on its frame. -/
theorem State.receiveFrame_congr (s : State) (c : Command) (f : Frame) {run run' : Command → List Byte → State → State}
    (h : ∀ p, run c p s = run' c p s) :
    s.receiveFrame (frameBytes c f) f.offByte run = s.receiveFrame (frameBytes c f) f.offByte run' := by
  simp only [State.receiveFrame]
  split_ifs
  · cases hj : s.judgeFrame (frameBytes c f) f.offByte with
    | ignored => rfl
    | refused status => rfl
    | taken c' p =>
      obtain rfl := judge_frameBytes_taken hj
      exact h p
  · rfl

/-! ### Addresses -/

theorem State.addressed_iff (s : State) (bytes : List Byte) :
    s.addressed bytes = true ↔ s.resetLow = false ∧ bytes.head? = some (writeAddress s.own) := by
  simp [State.addressed]

/-- What becomes of an addressed frame is its judgement's. -/
theorem State.receiveFrame_of_refused {s : State} {bytes : List Byte} {offByte : Bool} {status : Status}
    (run : Command → List Byte → State → State) (hreset : s.resetLow = false)
    (hhead : bytes.head? = some (writeAddress s.own)) (h : s.judgeFrame bytes offByte = .refused status) :
    s.receiveFrame bytes offByte run = s.respond status [] := by
  rw [State.receiveFrame, if_pos ((s.addressed_iff _).mpr ⟨hreset, hhead⟩), h]

theorem State.receiveFrame_of_ignored {s : State} {bytes : List Byte} {offByte : Bool}
    (run : Command → List Byte → State → State) (h : s.judgeFrame bytes offByte = .ignored) :
    s.receiveFrame bytes offByte run = s := by
  unfold State.receiveFrame
  split_ifs
  · rw [h]
  · rfl

/-- Addressed frames that are judged alike come to the same. -/
theorem State.receiveFrame_of_judge {s : State} {bytes bytes' : List Byte} (run : Command → List Byte → State → State)
    (hhead : bytes.head? = bytes'.head?) (h : s.judgeFrame bytes false = s.judgeFrame bytes' false) :
    s.receiveFrame bytes false run = s.receiveFrame bytes' false run := by
  have haddressed : s.addressed bytes = s.addressed bytes' := by simp only [State.addressed, hhead]
  rw [State.receiveFrame, State.receiveFrame, haddressed, h]

theorem writeAddress_getLsbD (k : StationNo) : (writeAddress k).getLsbD 0 = false := by
  have hall : ∀ k : StationNo, (writeAddress k).getLsbD 0 = false := by decide
  exact hall k

theorem writeAddress_toNat (k : StationNo) : (writeAddress k).toNat = 2 * (0x40 + k.toNat) := by
  have hall : ∀ k : StationNo, (writeAddress k).toNat = 2 * (0x40 + k.toNat) := by decide
  exact hall k

/-- The port acknowledges the address of its number, in both directions (R161). -/
theorem State.acknowledges_iff (s : State) (address : Byte) : s.acknowledges (address.extractLsb' 1 7) = true ↔
    s.resetLow = false ∧ address.toNat / 2 = 0x40 + s.own.toNat := by
  have hall : ∀ (k : StationNo) (b : Byte), b.extractLsb' 1 7 = BitVec.ofNat 7 (0x40 + k.toNat) ↔
      b.toNat / 2 = 0x40 + k.toNat := by decide +kernel
  simp [State.acknowledges, hall]

/-- A write to the station, byte by byte and to its end (R161). -/
theorem State.portAddress_write {s : State} {address : Byte} (hack : s.acknowledges (address.extractLsb' 1 7) = true)
    (hwrite : address.getLsbD 0 = false) : s.portAddress address = s.setTransaction (.receiving [address]) := by
  simp only [State.portAddress, hack, hwrite, if_true, Bool.false_eq_true, if_false]

theorem State.portAddress_of_not {s : State} {address : Byte} (hack : s.acknowledges (address.extractLsb' 1 7) = false) :
    s.portAddress address = s := by
  simp [State.portAddress, hack]

/-- The steps of R162, on a frame addressed to the station. -/
theorem exec_unknownCommand_addressed (straps : StationNo) (sync : Level) (command length : Byte) (rest : List Byte) (s : State)
    (hreset : s.resetLow = false) {status : Status}
    (h : judge s.mgmt.checkMode (s.ctl.station == .booting) (writeAddress s.own :: command :: length :: rest) false =
      .refused status) :
    exec (.unknownCommand straps sync { bytes := writeAddress s.own :: command :: length :: rest, offByte := false }) s =
      .next { s with mgmt := { s.mgmt with response := some { status := status, data := [] } } } :=
  congrArg Host.Outcome.next (State.receiveFrame_of_refused (State.runCommand straps sync) hreset rfl h)

/-- Settles O39. -/
theorem framesAreRefusedByTheFirstStep : Obligations.FramesAreRefusedByTheFirstStep := by
  refine ⟨fun straps sync command length rest s hreset => ?_, fun straps sync f s h => ?_, writeAddress_toNat,
    fun straps sync f s => ?_, fun straps sync command p s hp => ⟨fun hmode => ?_, fun b hmode => ?_⟩,
    fun straps sync offByte address bytes s => ⟨s.acknowledges_iff address, fun hreset haddress => ?_, fun hnot hidle => ?_⟩⟩
  · have hrefused {status : Status} := exec_unknownCommand_addressed straps sync command length rest s hreset (status := status)
    refine ⟨congrArg Host.Outcome.next (State.receiveFrame_of_ignored _ rfl),
      congrArg Host.Outcome.next (State.receiveFrame_of_ignored _ rfl),
      congrArg Host.Outcome.next (State.receiveFrame_of_ignored _ rfl),
      fun h h' => hrefused (judge_of_length h h'), fun h hmode => hrefused (judge_of_check (.inl h) ?_),
      fun h hmode hcheck => hrefused (judge_of_check (.inr h) ?_), fun hgood hunknown => ?_,
      fun hgood hne hle hserved => ?_, fun hgood hne hle hserved hcount => ?_⟩
    · rw [getElem?_check h, hmode]
      rfl
    · rw [getElem?_check_of_succ h]
      cases hlast : rest.getLast? with
      | none => rw [List.getLast?_eq_none_iff.mp hlast] at h; cases h
      | some b => exact checkRefusal_of_wrong hmode fun hb => hcheck (by rw [hlast, hb])
    all_goals
      obtain ⟨hnone, hsome⟩ := judge_of_good (booting := s.ctl.station == .booting) (hgood.imp And.left And.left)
        (checkRefusal_of_good hgood)
    · exact hrefused (hnone ((Command.ofByte_eq_none_iff command).mpr hunknown))
    all_goals
      obtain ⟨c, hc⟩ := Command.exists_ofByte hne hle
      have hinBooting := Command.inBooting_of_ofByte hc (rest.take length.toNat)
    · refine hrefused ((hsome c hc).trans (if_pos ?_))
      obtain ⟨hboot, hout⟩ := not_or.mp hserved
      rw [← hinBooting, Bool.not_eq_true] at hout
      simp [not_not.mp hboot, hout]
    · have hnot : ¬ ((s.ctl.station == .booting) && !c.inBooting (rest.take length.toNat)) = true := by
        rw [← hinBooting] at hserved
        obtain h | h := hserved <;> simp [h]
      have hlength : length.toNat ≠ c.parameters := fun h => hcount (by rw [Command.parameters_of_ofByte hc, h])
      exact hrefused ((hsome c hc).trans ((if_neg hnot).trans (if_pos hlength)))
  · refine congrArg Host.Outcome.next (if_neg ?_)
    rw [s.addressed_iff]
    rintro ⟨hreset, hhead⟩
    obtain h | h := h
    · rw [hreset] at h
      cases h
    · exact h hhead
  · exact ⟨congrArg Host.Outcome.next (s.receiveFrame_congr .readView f fun _ => rfl),
      congrArg Host.Outcome.next (s.receiveFrame_congr .clearEvents f fun _ => rfl),
      congrArg Host.Outcome.next (s.receiveFrame_congr .setEventMask f fun _ => rfl),
      congrArg Host.Outcome.next (s.receiveFrame_congr .clearCaptures f fun _ => rfl),
      congrArg Host.Outcome.next (s.receiveFrame_congr .clearCounters f fun _ => rfl),
      congrArg Host.Outcome.next (s.receiveFrame_congr .postDirective f fun _ => rfl),
      congrArg Host.Outcome.next (s.receiveFrame_congr .depart f fun _ => rfl),
      congrArg Host.Outcome.next (s.receiveFrame_congr .rejoin f fun _ => rfl),
      congrArg Host.Outcome.next (s.receiveFrame_congr .restart f fun _ => rfl)⟩
  · have hjudge := judge_append_check (mode := s.mgmt.checkMode) (booting := s.ctl.station == .booting)
      (address := writeAddress s.own) (command := command) p hp _ (by cases h : s.mgmt.checkMode <;> simp_all [checkRefusal])
      (.inr rfl)
    exact congrArg Host.Outcome.next (State.receiveFrame_of_judge _ rfl hjudge)
  · have hjudge (b : Byte) := judge_append_check (mode := s.mgmt.checkMode) (booting := s.ctl.station == .booting)
      (address := writeAddress s.own) (command := command) p hp b (by rw [hmode]; rfl) (.inl hmode)
    exact congrArg Host.Outcome.next (State.receiveFrame_of_judge _ rfl ((hjudge b).symm.trans (hjudge _)))
  · have hown : address.toNat / 2 = 0x40 + s.own.toNat := by rw [haddress, writeAddress_toNat]; omega
    have hwrite : address.getLsbD 0 = false := by rw [haddress]; exact writeAddress_getLsbD s.own
    have hsent : bytes.foldl State.portByte (s.portAddress address) = s.setTransaction (.receiving (address :: bytes)) := by
      rw [State.portAddress_write ((s.acknowledges_iff _).mpr ⟨hreset, hown⟩) hwrite, s.portByte_foldl]
      rfl
    simp only [hsent]
    exact ⟨rfl, rfl, rfl⟩
  · have hack : s.acknowledges (address.extractLsb' 1 7) = false := by
      rw [Bool.eq_false_iff, Ne, s.acknowledges_iff]
      rintro ⟨hreset, hown⟩
      obtain h | h := hnot
      · rw [hreset] at h
        cases h
      · exact h hown
    have hsent : bytes.foldl State.portByte (s.portAddress address) = s := by
      rw [State.portAddress_of_not hack, s.portByte_foldl_idle _ hidle]
    refine ⟨hsent, ?_, ?_⟩
    · rw [hsent]
      simp only [State.portAcknowledges, hidle]
    · rw [hsent]
      simp only [State.portEnd, hidle]

end Sys2Proof.Machine

/-! PROOF. Runs of bytes and the fields in them: what stands where in a page or a notice. -/

namespace Sys2Proof.Machine

open Sys2Proof

/-! ### Bytes of numbers -/

/-- A short value as a byte, by its number. -/
theorem byte_toNat {w : Nat} (x : BitVec w) : byte x.toNat = x.setWidth 8 := BitVec.eq_of_toNat_eq (by simp [byte])

theorem nat16_toNat {w : Nat} (x : BitVec w) : nat16 x.toNat = bytes16 (x.setWidth 16) := by
  rw [nat16]
  exact congrArg bytes16 (BitVec.eq_of_toNat_eq (by simp))

theorem nat16_eq (n : Nat) : nat16 n = [byte (n / 256), byte n] := by
  rw [nat16, bytes16_eq]
  refine congrArg₂ (fun a b => [a, b]) ?_ ?_ <;>
  · refine BitVec.eq_of_toNat_eq ?_
    simp only [byte, BitVec.toNat_ofNat]
    omega

theorem nat32_eq (n : Nat) : nat32 n = [byte (n / 16777216), byte (n / 65536), byte (n / 256), byte n] := by
  have hbyte (k : Nat) : (BitVec.ofNat 32 n).extractLsb' k 8 = byte (n % 2 ^ 32 / 2 ^ k) := by
    refine BitVec.eq_of_toNat_eq ?_
    simp [byte, BitVec.extractLsb'_toNat, Nat.shiftRight_eq_div_pow]
  simp only [nat32, bytes32, hbyte]
  refine congrArg₂ List.cons ?_ (congrArg₂ List.cons ?_ (congrArg₂ List.cons ?_ (congrArg₂ List.cons ?_ rfl))) <;>
  · refine BitVec.eq_of_toNat_eq ?_
    simp only [byte, BitVec.toNat_ofNat]
    omega

@[simp] theorem length_bytes16 (x : BitVec 16) : (bytes16 x).length = 2 := rfl
@[simp] theorem length_bytes32 (x : BitVec 32) : (bytes32 x).length = 4 := rfl
@[simp] theorem length_nat16 (n : Nat) : (nat16 n).length = 2 := rfl
@[simp] theorem length_nat32 (n : Nat) : (nat32 n).length = 4 := rfl

/-! ### Padding -/

@[simp] theorem length_padTo (n : Nat) (b : List Byte) : (padTo n b).length = n := by simp [padTo]

theorem padTo_of_length_le {n : Nat} {b : List Byte} (h : b.length ≤ n) : padTo n b = b ++ List.replicate (n - b.length) 0 := by
  refine List.ext_getElem (by simp; omega) fun i hi _ => ?_
  have hi' : i < n := by simpa using hi
  by_cases hb : i < b.length <;> simp [padTo, hb, List.getElem_append]

theorem padTo_length (b : List Byte) : padTo b.length b = b := by simp [padTo_of_length_le le_rfl]

theorem padTo_getElem? {n i : Nat} (b : List Byte) (h : i < n) : (padTo n b)[i]? = some (b.getD i 0) := by simp [padTo, h]

/-! ### Fields -/

/-- A field stands at an offset. -/
def FieldAt (b : List Byte) (o : Nat) (f : List Byte) : Prop := (b.drop o).take f.length = f

theorem fieldsAt_iff {b : List Byte} {fields : List (Nat × List Byte)} :
    fieldsAt b fields ↔ ∀ f ∈ fields, FieldAt b f.1 f.2 := Iff.rfl

theorem fieldsAt_cons {b f : List Byte} {o : Nat} {fields : List (Nat × List Byte)} :
    fieldsAt b ((o, f) :: fields) ↔ FieldAt b o f ∧ fieldsAt b fields := List.forall_mem_cons

theorem fieldsAt_nil (b : List Byte) : fieldsAt b [] := by simp [fieldsAt]

theorem fieldsAt_append {b : List Byte} {fields fields' : List (Nat × List Byte)} :
    fieldsAt b (fields ++ fields') ↔ fieldsAt b fields ∧ fieldsAt b fields' := List.forall_mem_append

theorem FieldAt.of_eq {b pre f post : List Byte} (h : b = pre ++ f ++ post) : FieldAt b pre.length f := by
  simp [FieldAt, h]

/-- A field of a field is a field of the whole. -/
theorem FieldAt.trans {b f g : List Byte} {o d : Nat} (h : FieldAt b o f) (h' : FieldAt f d g) : FieldAt b (o + d) g := by
  have hlength : g.length ≤ f.length - d := by
    have := congrArg List.length h'
    simp only [List.length_take, List.length_drop] at this
    omega
  rw [FieldAt] at h h' ⊢
  rw [← List.drop_drop]
  calc ((b.drop o).drop d).take g.length = (((b.drop o).drop d).take (f.length - d)).take g.length := by
        rw [List.take_take, min_eq_left hlength]
    _ = (f.drop d).take g.length := by rw [← List.drop_take, h]
    _ = g := h'

/-- The fields of a block, where the block stands. -/
theorem FieldAt.fieldsAt {b f : List Byte} {o : Nat} (h : FieldAt b o f) {fields : List (Nat × List Byte)}
    (hf : fieldsAt f fields) : fieldsAt b (fields.map fun p => (o + p.1, p.2)) := by
  intro p hp
  obtain ⟨p, hmem, rfl⟩ := List.mem_map.mp hp
  exact h.trans (hf p hmem)

/-- Fields one after another, from an offset on. -/
def layout : Nat → List (List Byte) → List (Nat × List Byte)
  | _, [] => []
  | o, f :: fs => (o, f) :: layout (o + f.length) fs

theorem fieldsAt_layout (pre : List Byte) (fields : List (List Byte)) (post : List Byte) :
    fieldsAt (pre ++ fields.flatten ++ post) (layout pre.length fields) := by
  induction fields generalizing pre with
  | nil => exact fieldsAt_nil _
  | cons f fields ih =>
    refine fieldsAt_cons.mpr ⟨FieldAt.of_eq (post := fields.flatten ++ post) (by simp), ?_⟩
    simpa using ih (pre ++ f)

theorem fieldsAt_of_layout {b : List Byte} {fields : List (Nat × List Byte)} (segments : List (List Byte)) (post : List Byte)
    (hb : b = segments.flatten ++ post) (hf : fields = layout 0 segments) : fieldsAt b fields := by
  rw [hb, hf]
  exact fieldsAt_layout [] segments post

theorem length_flatMap_const {α : Type} {g : α → List Byte} {w : Nat} (hg : ∀ a, (g a).length = w) (l : List α) :
    (l.flatMap g).length = w * l.length := by
  induction l with
  | nil => rfl
  | cons a l ih => rw [List.flatMap_cons, List.length_append, ih, hg, List.length_cons]; ring

/-- Blocks of one length, one after another. -/
theorem FieldAt.flatMap {α : Type} {g : α → List Byte} {w : Nat} (hg : ∀ a, (g a).length = w) {l : List α} {i : Nat} {a : α}
    (h : l[i]? = some a) : FieldAt (l.flatMap g) (w * i) (g a) := by
  obtain ⟨hi, ha⟩ := List.getElem?_eq_some_iff.mp h
  have hsplit : l = l.take i ++ a :: l.drop (i + 1) := by
    rw [← ha, List.getElem_cons_drop, List.take_append_drop]
  have hlength : ((l.take i).flatMap g).length = w * i := by
    rw [length_flatMap_const hg, List.length_take, min_eq_left hi.le]
  have hblocks : l.flatMap g = (l.take i).flatMap g ++ g a ++ (l.drop (i + 1)).flatMap g := by
    conv_lhs => rw [hsplit]
    simp
  have := FieldAt.of_eq hblocks
  rwa [hlength] at this

/-- A field before what is appended, and one within it. -/
theorem FieldAt.append_left {a f : List Byte} {o : Nat} (h : FieldAt a o f) (b : List Byte) : FieldAt (a ++ b) o f := by
  have hwhole : FieldAt (a ++ b) 0 a := by simp [FieldAt]
  simpa using hwhole.trans h

theorem FieldAt.append_right {b f : List Byte} {o : Nat} (h : FieldAt b o f) (a : List Byte) :
    FieldAt (a ++ b) (a.length + o) f := (FieldAt.of_eq (by simp : a ++ b = a ++ b ++ [])).trans h

/-- A field, byte by byte. -/
theorem fieldAt_iff_getElem? {b f : List Byte} {o : Nat} : FieldAt b o f ↔ ∀ i < f.length, b[o + i]? = f[i]? := by
  constructor
  · intro h i hi
    rw [← h, List.getElem?_take_of_lt hi, List.getElem?_drop]
  · intro h
    refine List.ext_getElem? fun i => ?_
    by_cases hi : i < f.length
    · rw [List.getElem?_take_of_lt hi, List.getElem?_drop, h i hi]
    · rw [List.getElem?_eq_none (by simp; omega), List.getElem?_eq_none (by omega)]

/-- Padding leaves the fields that are whole within its length. -/
theorem FieldAt.padTo {b f : List Byte} {o n : Nat} (h : FieldAt b o f) (hn : o + f.length ≤ n) : FieldAt (padTo n b) o f := by
  rw [fieldAt_iff_getElem?] at h ⊢
  intro i hi
  have hb := h i hi
  rw [List.getElem?_eq_getElem hi] at hb ⊢
  rw [padTo_getElem? b (by omega), List.getD_eq_getElem?_getD, hb]
  rfl

/-- Beyond what it pads there are zeros. -/
theorem fieldAt_padTo_zeros {b : List Byte} {o n : Nat} (k : Nat) (hb : b.length ≤ o) (hn : o + k ≤ n) :
    FieldAt (padTo n b) o (List.replicate k 0) := by
  rw [fieldAt_iff_getElem?]
  intro i hi
  rw [List.length_replicate] at hi
  rw [padTo_getElem? b (by omega), List.getD_eq_getElem?_getD, List.getElem?_eq_none (by omega)]
  simp [hi]

/-- Blocks of one length, padded: the block of each place, and zeros beyond their number. -/
theorem fieldAt_padTo_flatMap {α : Type} {g : α → List Byte} {w n i : Nat} (hg : ∀ a, (g a).length = w) (l : List α)
    (hn : w * i + w ≤ n) :
    FieldAt (padTo n (l.flatMap g)) (w * i) (l[i]?.elim (List.replicate w 0) g) := by
  cases h : l[i]? with
  | none =>
    refine fieldAt_padTo_zeros w ?_ hn
    rw [length_flatMap_const hg]
    exact Nat.mul_le_mul_left w (List.getElem?_eq_none_iff.mp h)
  | some a => exact (FieldAt.flatMap hg h).padTo (by rwa [hg])

end Sys2Proof.Machine

/-! PROOF. The view pages, field by field (R165, R175), and what a read transaction returns of a response (R164). -/

namespace Sys2Proof.Machine

open Sys2Proof

/-! ### Records of one length -/

theorem FailurePosition.length_bytes (p : FailurePosition) : p.bytes.length = 3 := by cases p <;> rfl

theorem Directive.length_bytes (d : Directive) : d.bytes.length = 6 := rfl

@[simp] theorem Notice.length_bytes (n : Notice) : n.bytes.length = 41 := by
  simp [Notice.bytes, length_flatMap_const length_bytes16]

theorem PeerEntry.length_bytes (e : PeerEntry) : e.bytes.length = 45 := by simp [PeerEntry.bytes]

theorem length_headBytes (ds : List Descriptor) : (headBytes ds).length = 4 := by cases ds <;> rfl

theorem State.length_queueBytes (s : State) (q : Fin 12) : (s.queueBytes q).length = 18 := by
  simp [State.queueBytes, length_headBytes]

theorem Capture.length_bytes {α : Type} (c : Capture α) (fields : α → Byte × List Byte) : (c.bytes fields).length = 14 := by
  unfold Capture.bytes
  split <;> simp

theorem State.length_monitorBytes (s : State) (t : Fin 4) : (s.monitorBytes t).length = 12 := rfl

/-! ### Page 0 -/

/-- The fields of page 0 in their order. -/
def State.segments0 (s : State) : List (List Byte) :=
  [[s.ctl.station.code], [s.ctl.cause.code], s.loader.failurePosition.bytes, [s.ctl.lastReset.code], [s.sbi.seq],
   [byte s.alloc.voidCount], [byte s.ctl.streak], [byte s.ctl.listenCount], [byte s.own.toNat], bytes32 s.loader.planDigest,
   nat16 s.ctl.drainCount, nat16 s.ctl.drainProgress, [byte s.ctl.drainEpochs], [s.mgmt.checkMode.code],
   nat16 s.mgmt.flags.toNat, nat16 s.mgmt.mask.toNat, [s.ctl.nextSeq], [byte s.ctl.queue.length], [boolByte s.ctl.awaiting]]

theorem State.page0_eq (s : State) :
    s.page0 = s.segments0.flatten ++ padTo 24 (s.ctl.queue.flatMap Directive.bytes) := by
  simp [State.page0, State.segments0, eventBytes, byte_toNat, nat16_toNat]

theorem State.fields0_eq (s : State) : s.fields0 = layout 0 s.segments0 := by
  have hstation : ∀ k : StationNo, nat16 k.toNat = [0, byte k.toNat] := by decide
  unfold State.fields0 State.segments0
  cases s.loader.failurePosition with
  | field sec o => cases sec <;> rfl
  | station k => simp only [layout, FailurePosition.bytes, hstation]; rfl
  | _ => rfl

theorem State.page0_fields (s : State) : fieldsAt s.page0 s.fields0 ∧ fieldsAt s.page0 ((List.range 4).map s.directiveFields) := by
  refine ⟨fieldsAt_of_layout _ _ s.page0_eq s.fields0_eq, ?_⟩
  rw [s.page0_eq, fieldsAt_iff]
  intro f hf
  obtain ⟨i, hi, rfl⟩ := List.mem_map.mp hf
  have hlength : s.segments0.flatten.length = 28 := by simp [State.segments0, FailurePosition.length_bytes]
  have hblock := fieldAt_padTo_flatMap (n := 24) Directive.length_bytes s.ctl.queue (i := i)
    (by have := List.mem_range.mp hi; omega)
  have hat := hblock.append_right s.segments0.flatten
  rw [hlength] at hat
  have hfield : (s.directiveFields i).2 = s.ctl.queue[i]?.elim (List.replicate 6 0) Directive.bytes := by
    unfold State.directiveFields
    cases s.ctl.queue[i]? with
    | none => rfl
    | some d => simp [Directive.bytes, byte_toNat]
  rw [hfield]
  exact hat

theorem State.length_page0 (s : State) : s.page0.length = 52 := by
  simp [s.page0_eq, State.segments0, FailurePosition.length_bytes]

/-! ### Page 1 -/

theorem State.page1_fields (s : State) (k : StationNo) : fieldsAt s.page1 (s.fields1 k) := by
  have hentry : s.census.peers.toList[k.toNat]? = some (s.census.entry k) := by
    simp [Census.entry, k.isLt]
  have hblock := (FieldAt.flatMap PeerEntry.length_bytes hentry).append_right (bytes16 s.census.heard)
  have hin {o : Nat} {f : List Byte} (h : FieldAt (s.census.entry k).bytes o f) :
      FieldAt s.page1 (2 + 45 * k.toNat + o) f := hblock.trans h
  have hheard : FieldAt s.page1 0 (bytes16 s.census.heard) :=
    FieldAt.of_eq (pre := []) rfl
  refine fieldsAt_append.mpr ⟨?_, ?_⟩
  · exact fieldsAt_cons.mpr ⟨hheard, fieldsAt_cons.mpr ⟨hin (o := 0) rfl, fieldsAt_cons.mpr ⟨hin (o := 2) rfl,
      fieldsAt_cons.mpr ⟨hin (o := 3) rfl, fieldsAt_nil _⟩⟩⟩⟩
  · cases hc : (s.census.entry k).contents with
    | none =>
      refine fieldsAt_cons.mpr ⟨hin (o := 1) ?_, fieldsAt_cons.mpr ⟨hin (o := 4) ?_, fieldsAt_nil _⟩⟩
      · simp [FieldAt, PeerEntry.bytes, PeerEntry.status, hc]
      · simp [FieldAt, PeerEntry.bytes, PeerEntry.status, hc, padTo]
    | some n =>
      refine fieldsAt_cons.mpr ⟨hin (o := 1) ?_, fieldsAt_cons.mpr ⟨hin (o := 4) ?_, fieldsAt_nil _⟩⟩
      · simp [FieldAt, PeerEntry.bytes, PeerEntry.status, hc, byte_toNat]
      · have hpad : padTo 41 n.bytes = n.bytes := by simpa using padTo_length n.bytes
        simp [FieldAt, PeerEntry.bytes, PeerEntry.status, hc, hpad]

theorem State.length_page1 (s : State) : s.page1.length = 722 := by
  simp [State.page1, length_flatMap_const PeerEntry.length_bytes]

/-! ### Page 2 -/

/-- The fields of page 2 in their order. -/
def State.segments2 (s : State) : List (List Byte) :=
  let r := s.alloc.standing
  [[r.origin.code], [s.alloc.settle.code], [byte s.alloc.voidCount], bytes32 r.digest, bytes16 r.members, bytes16 r.guests,
   [byte r.pressure.toNat], r.admin.percents.toList.map byte, bytes16 r.admin.evicted, r.capacities.toList.flatMap nat16,
   s.ownGrants.flatMap nat16, nat16 r.grants.length, r.grants.flatMap nat16]

theorem State.page2_eq (s : State) : s.page2 = s.segments2.flatten := by
  simp [State.page2, State.segments2, Admin.bytes, targetSetByte, byte_toNat]

theorem State.page2_fields (s : State) : fieldsAt s.page2 s.fields2 := by
  refine fieldsAt_of_layout s.segments2 [] (by rw [s.page2_eq, List.append_nil]) ?_
  simp [State.fields2, layout, State.segments2, length_flatMap_const length_nat16, State.ownGrants]

theorem State.length_page2 (s : State) : s.page2.length = 52 + 2 * s.alloc.standing.grants.length := by
  have hown : s.ownGrants.length = 12 := by simp [State.ownGrants]
  simp [s.page2_eq, State.segments2, length_flatMap_const length_nat16, hown]
  omega

/-! ### Page 3 -/

/-- What follows the queues on page 3, in its order. -/
def State.segments3 (s : State) : List (List Byte) :=
  [nat16 s.store.heldCount, nat16 (512 - s.store.heldCount), s.settings.banks.toList.flatMap nat16,
   [byte s.settings.ring.length], [byte s.meter.position], [boolByte s.meter.halt], [boolByte s.meter.running],
   nat16 s.settings.stepInterval]

theorem State.page3_eq (s : State) : s.page3 = (List.finRange 12).flatMap s.queueBytes ++ s.segments3.flatten
    ++ padTo 32 (s.settings.ring.map RingSlot.byte) := by
  simp [State.page3, State.segments3, Config.storeCapacity]

theorem State.length_queues (s : State) : ((List.finRange 12).flatMap s.queueBytes).length = 216 := by
  rw [length_flatMap_const s.length_queueBytes, List.length_finRange]

/-- The fields of a queue record in their order. -/
def State.queueSegments (s : State) (q : Fin 12) : List (List Byte) :=
  [nat16 s.settings.queueLimits[q], nat16 s.store.queues[q].length, nat16 (s.store.queues[q].map (·.cells)).sum,
   nat16 s.store.arrivals[q], nat16 s.store.previous[q], headBytes s.store.queues[q],
   bytes32 (BitVec.ofInt 32 s.meter.credits[q])]

theorem State.page3_queueFields (s : State) (q : Fin 12) : fieldsAt s.page3 (s.queueFields q) := by
  have hq : (List.finRange 12)[q.val]? = some q := by simp
  have hblock : FieldAt s.page3 (18 * q.val) (s.queueBytes q) := by
    rw [s.page3_eq, List.append_assoc]
    exact (FieldAt.flatMap s.length_queueBytes hq).append_left _
  have hfields : fieldsAt (s.queueBytes q) (layout 0 (s.queueSegments q)) :=
    fieldsAt_of_layout _ [] (by simp [State.queueBytes, State.queueSegments, queuedCells]) rfl
  have heq : s.queueFields q = (layout 0 (s.queueSegments q)).map fun p => (18 * q.val + p.1, p.2) := by
    unfold State.queueFields State.queueSegments
    cases s.store.queues[q] <;> rfl
  rw [heq]
  exact hblock.fieldsAt hfields

theorem State.page3_fields (s : State) : fieldsAt s.page3 s.fields3 := by
  have h := fieldsAt_layout ((List.finRange 12).flatMap s.queueBytes) s.segments3 (padTo 32 (s.settings.ring.map RingSlot.byte))
  rw [← s.page3_eq, s.length_queues] at h
  have hfields : s.fields3 = layout 216 s.segments3 := by
    simp [State.fields3, layout, State.segments3, length_flatMap_const length_nat16]
  rwa [hfields]

theorem State.length_segments3 (s : State) : s.segments3.flatten.length = 16 := by
  simp [State.segments3, length_flatMap_const length_nat16]

theorem RingSlot.byte_eq (r : RingSlot) :
    r.byte = Sys2Proof.Machine.byte (64 * r.target.val + 16 * r.cls.index.val + 2 * r.skip.toNat + r.stop.toNat) := by
  obtain ⟨target, cls, skip, stop⟩ := r
  have hall : ∀ target : Fin 4, ∀ cls : TrafficClass, ∀ skip stop : Bool,
      (⟨target, cls, skip, stop⟩ : RingSlot).byte =
        Sys2Proof.Machine.byte (64 * target.val + 16 * cls.index.val + 2 * skip.toNat + stop.toNat) := by
    intro target cls
    cases cls <;> revert target <;> decide
  exact hall target cls skip stop

theorem State.page3_slotFields (s : State) : fieldsAt s.page3 ((List.range 32).map s.slotField) := by
  rw [s.page3_eq, fieldsAt_iff]
  intro f hf
  obtain ⟨i, hi, rfl⟩ := List.mem_map.mp hf
  have hslots : s.settings.ring.map RingSlot.byte = s.settings.ring.flatMap fun r => [r.byte] := by
    simp [List.map_eq_flatMap]
  have hblock := fieldAt_padTo_flatMap (n := 32) (w := 1) (g := fun r : RingSlot => [r.byte]) (fun _ => rfl) s.settings.ring (i := i)
    (by have := List.mem_range.mp hi; omega)
  have hat := hblock.append_right ((List.finRange 12).flatMap s.queueBytes ++ s.segments3.flatten)
  rw [List.length_append, s.length_queues, s.length_segments3, one_mul, ← hslots] at hat
  have hfield : (s.slotField i).2 = s.settings.ring[i]?.elim (List.replicate 1 0) fun r => [r.byte] := by
    unfold State.slotField
    cases s.settings.ring[i]? with
    | none => rfl
    | some r => exact congrArg (fun b => [b]) r.byte_eq.symm
  rw [hfield]
  exact hat

theorem State.length_page3 (s : State) : s.page3.length = 264 := by
  rw [s.page3_eq, List.length_append, List.length_append, s.length_queues, s.length_segments3, length_padTo]

/-! ### Page 4 -/

theorem Capture.bytes_eq {α : Type} (c : Capture α) (fields : α → Byte × List Byte) (hw : ∀ e, (fields e).2.length ≤ 11) (o : Nat) :
    (o, c.bytes fields) = captureField o (c.first.map fields) c.count := by
  unfold Capture.bytes captureField
  cases c.first with
  | none => rfl
  | some e => simp [padTo_of_length_le (hw e), boolByte]

theorem Place.byte_eq (p : Place) : p.byte = placeCode p := by
  cases p with
  | slot k => exact (byte_toNat k).symm
  | directiveWindow => rfl

theorem BusEvent.bytes_eq (e : BusEvent) : e.bytes = busFields e := by
  cases e <;> simp [BusEvent.bytes, busFields, Place.byte_eq, byte_toNat]

theorem ConfigEvent.bytes_eq (e : ConfigEvent) : e.bytes = configFields e := by
  cases e with
  | noLocal k => simp [ConfigEvent.bytes, configFields, byte_toNat]
  | digest sec => cases sec <;> rfl
  | range sec o => cases sec <;> rfl
  | _ => rfl

theorem busFields_length (e : BusEvent) : (busFields e).2.length ≤ 11 := by cases e <;> simp [busFields]
theorem configFields_length (e : ConfigEvent) : (configFields e).2.length ≤ 11 := by
  cases e with
  | range sec o => simp [configFields]
  | _ => simp [configFields]

/-- The fields of page 4 in their order. -/
def State.segments4 (s : State) : List (List Byte) :=
  [s.mgmt.bus.bytes busFields, s.mgmt.agreement.bytes MinorityEvent.bytes, s.mgmt.directive.bytes IgnoredEvent.bytes,
   s.mgmt.config.bytes configFields, [byte s.loader.corrections]]

theorem State.page4_eq (s : State) : s.page4 = s.segments4.flatten := by
  have hbus : BusEvent.bytes = busFields := funext BusEvent.bytes_eq
  have hconfig : ConfigEvent.bytes = configFields := funext ConfigEvent.bytes_eq
  simp [State.page4, State.segments4, hbus, hconfig]

theorem State.page4_fields (s : State) : fieldsAt s.page4 s.fields4 := by
  refine fieldsAt_of_layout s.segments4 [] (by rw [s.page4_eq, List.append_nil]) ?_
  have hignored : (IgnoredEvent.bytes : IgnoredEvent → _) = fun e =>
      (1, [byte e.frame.sender.toNat, e.frame.seq, e.frame.kind.code] ++ bytes16 e.frame.operand ++ [e.seq]) :=
    funext fun e => by simp [IgnoredEvent.bytes, byte_toNat]
  simp only [State.segments4, layout, Capture.length_bytes, Nat.zero_add]
  rw [Capture.bytes_eq _ _ busFields_length, Capture.bytes_eq _ _ (fun e => by simp [MinorityEvent.bytes]),
    Capture.bytes_eq _ _ (fun e => by simp [IgnoredEvent.bytes]), Capture.bytes_eq _ _ configFields_length, hignored]
  rfl

theorem State.length_page4 (s : State) : s.page4.length = 57 := by
  simp [s.page4_eq, State.segments4, Capture.length_bytes]

/-! ### Pages 5 and 6 -/

theorem State.page5_fields (s : State) : fieldsAt s.page5 s.fields5 :=
  fieldsAt_of_layout (s.mgmt.counters.list.map nat32) [] (by simp [State.page5, List.flatMap_def]) rfl

theorem State.length_page5 (s : State) : s.page5.length = 44 := length_flatMap_const length_nat32 _

/-- The fields of a monitor in their order. -/
def State.monitorSegments (s : State) (t : Fin 4) : List (List Byte) :=
  [[boolByte (inUse s t)], [s.monitors[t].state.code], [byte s.monitors[t].highCount], [byte s.monitors[t].lowCount],
   [byte s.monitors[t].marks], nat16 s.monitors[t].lastReading, nat16 s.settings.monitors[t].high,
   nat16 s.settings.monitors[t].low, [byte s.settings.monitors[t].debounce]]

theorem State.page6_fields (s : State) (t : Fin 4) : fieldsAt s.page6 (s.fields6 t) := by
  have ht : allTargets[t.val]? = some t := by fin_cases t <;> rfl
  have hblock : FieldAt s.page6 (12 * t.val) (s.monitorBytes t) := FieldAt.flatMap s.length_monitorBytes ht
  have hfields : fieldsAt (s.monitorBytes t) (layout 0 (s.monitorSegments t)) := fieldsAt_of_layout _ [] rfl rfl
  have heq : s.fields6 t = (layout 0 (s.monitorSegments t)).map fun p => (12 * t.val + p.1, p.2) := by
    simp [State.fields6, State.monitorSegments, layout, boolByte, inUse, State.plan]
  rw [heq]
  exact hblock.fieldsAt hfields

theorem State.length_page6 (s : State) : s.page6.length = 48 := length_flatMap_const s.length_monitorBytes _

/-! ### READ_VIEW and read transactions -/

theorem State.page_of_lt (s : State) {n : Nat} (h : 6 < n) : s.page n = none := by
  obtain ⟨m, rfl⟩ := Nat.exists_eq_add_of_lt h
  rw [show 6 + m + 1 = m + 7 by omega]
  rfl

/-- READ_VIEW of the bytes of its parameters. -/
theorem State.readView_eq (s : State) (page count : Byte) (offset : BitVec 16) :
    (s.page page.toNat = none → s.readView (page :: bytes16 offset ++ [count]) = s.respond .badOperand [])
    ∧ ∀ b, s.page page.toNat = some b → s.readView (page :: bytes16 offset ++ [count]) =
        if count.toNat = 0 ∨ 32 < count.toNat ∨ b.length < offset.toNat + count.toNat then s.respond .badOperand []
        else s.respond .ok ((b.drop offset.toNat).take count.toNat) := by
  have hpage : nat8At (page :: bytes16 offset ++ [count]) 0 = page.toNat := rfl
  have hcount : nat8At (page :: bytes16 offset ++ [count]) 3 = count.toNat := rfl
  have hoffset : nat16At (page :: bytes16 offset ++ [count]) 1 = offset.toNat :=
    congrArg BitVec.toNat (word16At_bytes16 offset [page] [count])
  constructor
  · intro h
    simp only [State.readView, hpage, h]
  · intro b h
    simp only [State.readView, hpage, hcount, hoffset, h]

/-- A run of bytes read on: the bytes, then released bits. -/
theorem map_range_getD (l : List Byte) (n : Nat) :
    (List.range (l.length + n)).map (fun i => l.getD i 0xFF) = l ++ List.replicate n 0xFF := by
  refine List.ext_getElem (by simp) fun i hi _ => ?_
  by_cases h : i < l.length <;> simp [h, List.getElem_append]

theorem State.readTransaction_eq (s : State) (n : Nat) :
    s.readTransaction ((responseBytes s.mgmt.response).length + n) =
      responseBytes s.mgmt.response ++ List.replicate n 0xFF := map_range_getD _ n

theorem State.readTransactionReset_getElem? (s : State) {n k i : Nat} (h : i < n) :
    (s.readTransactionReset n k)[i]? = if i < k then (s.readTransaction n)[i]? else some 0xFF := by
  have hlength := s.readTransaction_length n
  unfold State.readTransactionReset
  split_ifs with hk
  · rw [List.getElem?_append_left (by simp [hlength, h, hk]), List.getElem?_take_of_lt hk]
  · have hle : ((s.readTransaction n).take k).length ≤ i := by simp [hlength]; omega
    rw [List.getElem?_append_right hle, List.getElem?_replicate, if_pos (by simp [hlength]; omega)]

theorem State.portReads_idle (s : State) (n : Nat) (h : s.mgmt.transaction = .idle) :
    s.portReads n = List.replicate n 0xFF := by
  have hread : s.portRead = 0xFF := by simp only [State.portRead, h]
  have hnext : s.portNext = s := by simp only [State.portNext, h]
  induction n with
  | zero => rfl
  | succ n ih => rw [State.portReads, hread, hnext, ih, List.replicate_succ]

/-- Settles O40. -/
theorem readViewAnswersFromThePage : Obligations.ReadViewAnswersFromThePage := by
  refine ⟨fun page count offset s hreset hserved => ?_, fun s => ?_, fun s b => ?_, ?_, fun n s => ⟨fun h => ?_, fun r h => ?_⟩,
    fun s n k i hi => s.readTransactionReset_getElem? hi, fun s n => ⟨fun hreset => ?_, fun hidle => s.portReads_idle n hidle⟩⟩
  · have hexec := exec_readView_checkedFrame (p := page :: bytes16 offset ++ [count]) rfl hreset
      (hserved.imp_right fun h => by rw [h]; rfl)
    obtain ⟨hnone, hsome⟩ := s.readView_eq page count offset
    refine ⟨fun hpage => hexec.trans (congrArg Host.Outcome.next (hnone (s.page_of_lt hpage))),
      fun b hb => ⟨fun hbad => hexec.trans (congrArg Host.Outcome.next ((hsome b hb).trans (if_pos ?_))),
        fun hpos hle hin => hexec.trans (congrArg Host.Outcome.next ((hsome b hb).trans (if_neg ?_)))⟩⟩
    · exact hbad.imp_left fun h => by rw [h]; rfl
    · omega
  · simp only [List.map_cons, List.map_nil, show List.range 7 = [0, 1, 2, 3, 4, 5, 6] from rfl, State.page, Option.map_some,
      s.length_page0, s.length_page1, s.length_page2, s.length_page3, s.length_page4, s.length_page5, s.length_page6]
  · refine ⟨?_, ?_, ?_, ?_, ?_, ?_, ?_⟩ <;> intro h <;> obtain rfl := Option.some.inj h
    · exact s.page0_fields
    · exact s.page1_fields
    · exact s.page2_fields
    · exact ⟨s.page3_queueFields, s.page3_fields, s.page3_slotFields⟩
    · exact s.page4_fields
    · exact s.page5_fields
    · exact s.page6_fields
  · exact ⟨fun n => ⟨nat16_eq n, nat32_eq n⟩, rfl, rfl, rfl, rfl, rfl, rfl, rfl, rfl, rfl, rfl, rfl⟩
  · have hread := s.readTransaction_eq n
    rw [h] at hread
    exact hread
  · have hread := s.readTransaction_eq n
    rw [h, show (responseBytes (some r)).length = 1 + r.data.length + 1 by simp [responseBytes, responseBody]; omega] at hread
    rw [hread, responseBytes, List.append_assoc]
    rfl
  · have hbits : ∀ k : StationNo, (writeAddress k + 1).toNat / 2 = 0x40 + k.toNat ∧ (writeAddress k + 1).getLsbD 0 = true := by
      decide
    obtain ⟨hown, hread⟩ := hbits s.own
    exact s.portReads_address n _ ((s.acknowledges_iff _).mpr ⟨hreset, hown⟩) hread

end Sys2Proof.Machine

/-! PROOF. A mark in one form: what the Station Controller makes of it as one change of its registers, the entry to a state
that goes with it, and the ageing before it or after it (R99, R102, R105, R106, R145, R146). -/

namespace Sys2Proof.Machine

open Sys2Proof

/-! ### Entries -/

/-- The states whose entry flushes the store and drops the directives (R109, R110). -/
def isOut (st : StationState) : Bool := st == .quiet || st == .fenced || st == .excluded

theorem isOut_iff (st : StationState) : isOut st = true ↔ st = .quiet ∨ st = .fenced ∨ st = .excluded := by
  cases st <;> simp [isOut]

/-- The reason that such an entry expires a descriptor with (R109). -/
def exitReason (st : StationState) : ExpiryReason :=
  if st = .fenced then .fence else if st = .excluded then .exclude else .depart

/-- The registers of the Station Controller at such an entry (R110). -/
def Control.out (c : Control) (st : StationState) : Control := { c with station := st, queue := [], awaiting := false }

/-- Descriptors expired, as the management port counts and flags them (R145, R166). -/
def Mgmt.expire (m : Mgmt) (n : Nat) : Mgmt :=
  ({ m with counters := { m.counters with expiries := countUp n m.counters.expiries } }).raiseIf (n != 0) .expired

/-- Such an entry, as the management port counts and flags it (R108 to R110). -/
def Mgmt.exit (m : Mgmt) (n : Nat) (dropped : Bool) (st : StationState) : Mgmt :=
  (((m.expire n).raiseIf dropped .dirDrop).raiseIf (st == .fenced) .fenced).raiseIf (st == .excluded) .excluded

/-- The Station Controller's registers become `c`: with another station state its entry is made. -/
def State.turned (v : State) (c : Control) : State :=
  let entered := c.station != v.ctl.station
  let out := entered && isOut c.station
  { v with
    ctl := c
    sbi := if entered then v.sbi.releaseFor c.station else v.sbi
    meter := if entered then v.meter.enter c.station else v.meter
    monitors := if entered && c.station == .active then Vector.ofFn fun t : Fin 4 =>
        if inUse v t then v.monitors[t].endMask v.settings.monitors[t].debounce else v.monitors[t]
      else v.monitors
    store := if out then v.store.empty else v.store
    sent := if out then
        v.sent ++ v.store.held.map fun (d : Descriptor) => LinkMessage.expired d.tag (exitReason c.station)
      else v.sent
    mgmt := if out then v.mgmt.exit v.store.held.length (!v.ctl.queue.isEmpty) c.station else v.mgmt }

section
variable (v : State)

theorem Mgmt.expire_isEmpty (m : Mgmt) (ds : List Descriptor) :
    ({ m with counters := { m.counters with expiries := countUp ds.length m.counters.expiries } }).raiseIf
      (!ds.isEmpty) .expired = m.expire ds.length := by
  cases ds <;> rfl

/-- The registers changed, the station state kept. -/
theorem State.turned_of_eq {c : Control} (h : c.station = v.ctl.station) : v.turned c = { v with ctl := c } := by
  simp [State.turned, h]

theorem State.turned_self : v.turned v.ctl = v := v.turned_of_eq rfl

/-- The store flushed, the directives dropped and the state entered, in one. -/
theorem State.turned_out {st : StationState} (h : st ≠ v.ctl.station) (ho : isOut st = true) :
    v.turned (v.ctl.out st) = { ((v.flush (exitReason st)).dropDirectives).enterState st with
      mgmt := (((v.flush (exitReason st)).dropDirectives).mgmt.raiseIf (st == .fenced) .fenced).raiseIf
        (st == .excluded) .excluded } := by
  have hactive : st ≠ .active := by rintro rfl; cases ho
  simp [State.turned, Control.out, h, ho, hactive, State.flush_eq, State.reportExpired_eq, State.dropDirectives_eq,
    Mgmt.expire_isEmpty, State.enterState, Mgmt.exit]

theorem State.enterFenced_eq_turned (h : v.ctl.station ≠ .fenced) : v.enterFenced = v.turned (v.ctl.out .fenced) :=
  (v.turned_out (Ne.symm h) rfl).symm

theorem State.endDrain_eq_turned (h : v.ctl.station ≠ .quiet) : v.endDrain = v.turned (v.ctl.out .quiet) :=
  (v.turned_out (Ne.symm h) rfl).symm

theorem State.enterExcluded_eq_turned (h : v.ctl.station ≠ .excluded) (cause : Cause) :
    v.enterExcluded cause = v.turned { v.ctl.out .excluded with cause := cause } := by
  have hturned : v.turned { v.ctl.out .excluded with cause := cause } =
      { v.turned (v.ctl.out .excluded) with ctl := { v.ctl.out .excluded with cause := cause } } := rfl
  rw [hturned, v.turned_out (Ne.symm h) rfl]
  simp [State.enterExcluded, State.raise, State.modMgmt, State.modCtl, Mgmt.raiseIf, exitReason, Control.out, State.enterState,
    State.dropDirectives_eq, State.flush_eq, State.reportExpired_eq]

/-- A state entered with the descriptors and the directives kept. -/
theorem State.turned_in {c : Control} (h : c.station ≠ v.ctl.station) (ho : isOut c.station = false)
    (ha : c.station ≠ .active) : v.turned c = { v.enterState c.station with ctl := c } := by
  simp [State.turned, h, ho, ha, State.enterState]

theorem State.enterJoining_eq_turned (h : v.ctl.station ≠ .joining) :
    v.enterJoining = v.turned { v.ctl with station := .joining, streak := 0 } :=
  (v.turned_in (c := { v.ctl with station := .joining, streak := 0 }) (Ne.symm h) rfl (by simp)).symm

theorem State.enterResync_eq_turned (h : v.ctl.station ≠ .resync) :
    v.enterResync = v.turned { v.ctl with station := .resync, streak := 0 } :=
  (v.turned_in (c := { v.ctl with station := .resync, streak := 0 }) (Ne.symm h) rfl (by simp)).symm

theorem State.enterActive_eq_turned (h : v.ctl.station ≠ .active) :
    v.enterActive = v.turned { v.ctl with station := .active } := by
  simp [State.turned, Ne.symm h, isOut, State.enterActive, State.enterState, State.modMonitors, inUse, State.settings]

/-- Registers changed on the way make no difference, if the station state and the directives stand. -/
theorem State.turned_turned {c c' : Control} (hs : c.station = v.ctl.station) (hq : c.queue = v.ctl.queue) :
    ({ v with ctl := c } : State).turned c' = v.turned c' := by
  simp [State.turned, hs, hq, inUse, State.settings]

/-! ### The Station Controller at a mark -/

/-- What comes of a state by one change of the Station Controller's registers. -/
def State.Turns (v w : State) : Prop := w = v.turned w.ctl

variable {v}

theorem State.Turns.of_eq {w : State} {c : Control} (h : w = v.turned c) : v.Turns w := by
  subst h
  rfl

theorem State.Turns.self : v.Turns v := v.turned_self.symm

theorem State.Turns.modCtl (c : Control) (hs : c.station = v.ctl.station) : v.Turns { v with ctl := c } :=
  .of_eq (v.turned_of_eq hs).symm

/-- A change of registers that keeps the station state and the directives, and then another. -/
theorem State.Turns.after {w : State} (c : Control) (hs : c.station = v.ctl.station) (hq : c.queue = v.ctl.queue)
    (h : ({ v with ctl := c } : State).Turns w) : v.Turns w :=
  h.trans (v.turned_turned hs hq)

theorem State.Turns.matched (h : v.ctl.station ≠ .active) : v.Turns v.matched := by
  unfold State.matched
  split_ifs
  · exact .after { v.ctl with streak := satInc 2 v.ctl.streak } rfl rfl (.of_eq (State.enterActive_eq_turned _ h))
  · exact .modCtl _ rfl

theorem State.Turns.applyResult : v.Turns v.applyResult := by
  unfold State.applyResult
  split
  next hst => exact .of_eq (v.enterResync_eq_turned (by rw [hst]; decide))
  next hst => exact .matched (by rw [hst]; decide)
  next hst => exact .matched (by rw [hst]; decide)
  · exact .modCtl _ rfl
  · exact .modCtl _ rfl
  next hst => exact .of_eq (v.enterActive_eq_turned (by rw [hst]; decide))
  next hst => exact .of_eq (v.enterActive_eq_turned (by rw [hst]; decide))
  · exact .self

theorem State.Turns.listenEpoch (pass : Bool) (h : v.ctl.station = .listening) : v.Turns (v.listenEpoch pass) := by
  have hst : v.countListen.ctl.station = .listening := h
  unfold State.listenEpoch
  split_ifs
  · exact .after v.countListen.ctl rfl rfl (.of_eq (State.enterJoining_eq_turned _ (by rw [hst]; decide)))
  · exact .after v.countListen.ctl rfl rfl (.of_eq (State.enterExcluded_eq_turned _ (by rw [hst]; decide) _))
  · exact .modCtl _ rfl

theorem State.Turns.drainEpoch (h : v.ctl.station = .leaving) : v.Turns v.drainEpoch := by
  have hst : v.countDrainEpoch.ctl.station = .leaving := h
  unfold State.drainEpoch
  split_ifs
  · exact .after v.countDrainEpoch.ctl rfl rfl (.of_eq (State.endDrain_eq_turned _ (by rw [hst]; decide)))
  · exact .modCtl _ rfl

/-- The Station Controller's change at a mark is one change of its registers. -/
theorem State.Turns.controlMark (v : State) (cut vetoed pass : Bool) : v.Turns (v.controlMark cut vetoed pass) := by
  have hserving (h : v.ctl.station ≠ .fenced) :
      v.Turns (if !cut && !vetoed && v.ownEvicted then v.enterFenced else if cut || vetoed then v else v.applyResult) := by
    split_ifs
    · exact .of_eq (v.enterFenced_eq_turned h)
    · exact .self
    · exact .applyResult
  unfold State.controlMark
  split
  next hst => exact .listenEpoch pass hst
  next hst => exact hserving (by rw [hst]; decide)
  next hst => exact hserving (by rw [hst]; decide)
  next hst => exact hserving (by rw [hst]; decide)
  next hst =>
    split_ifs
    · exact .of_eq (v.enterFenced_eq_turned (by rw [hst]; decide))
    · exact .drainEpoch hst
  next hst =>
    split_ifs
    · exact .of_eq (v.enterJoining_eq_turned (by rw [hst]; decide))
    · exact .self
  all_goals exact .self

/-! ### The ageing of a mark -/

theorem State.agedStore_eq (v : State) : v.agedStore = { v with
    store := v.store.ageing v.settings.ageLimit
    sent := v.sent ++ (v.store.aged v.settings.ageLimit).map fun (d : Descriptor) => LinkMessage.expired d.tag .age
    mgmt := v.mgmt.expire (v.store.aged v.settings.ageLimit).length } := by
  simp [State.agedStore, State.expireAged, State.reportExpired_eq, State.modStore, Mgmt.expire_isEmpty, State.settings]

/-- Whether the ageing of a mark takes the last descriptor of a Leaving station (R106). -/
def State.drainsByAgeing (v : State) : Bool :=
  v.ctl.station == .leaving && !(v.store.aged v.settings.ageLimit).isEmpty && v.agedStore.store.held.isEmpty

theorem State.age_eq_turned (v : State) :
    v.age = v.agedStore.turned (if v.drainsByAgeing then v.ctl.out .quiet else v.ctl) := by
  have hage : v.age = v.agedStore.endDrainIf (!(v.store.aged v.settings.ageLimit).isEmpty) := rfl
  have hctl : v.agedStore.ctl = v.ctl := v.agedStore_ctl
  rw [hage]
  by_cases hd : v.drainsByAgeing = true
  · obtain ⟨⟨hl, haged⟩, hempty⟩ : (v.ctl.station = .leaving ∧ (!(v.store.aged v.settings.ageLimit).isEmpty) = true)
        ∧ v.agedStore.store.held = [] := by simpa [State.drainsByAgeing] using hd
    rw [if_pos hd, State.endDrainIf, if_pos haged, State.endDrainIfEmpty_of_held_nil _ (by rw [hctl, hl]) hempty,
      State.endDrain_eq_turned _ (by rw [hctl, hl]; decide), hctl]
  · rw [if_neg hd, ← hctl, State.turned_self]
    unfold State.endDrainIf
    split_ifs with haged
    · refine State.endDrainIfEmpty_of_not _ ?_
      rintro ⟨hl, hempty⟩
      rw [hctl] at hl
      exact hd (by simp only [State.drainsByAgeing, hl, haged, hempty]; rfl)
    · rfl

end

end Sys2Proof.Machine

/-! PROOF. A mark in one form, continued: the control's change and the ageing together, field by field. -/

namespace Sys2Proof.Machine

open Sys2Proof

/-! ### Counters and flags -/

theorem countUp_countUp (a b n : Nat) : countUp a (countUp b n) = countUp (b + a) n := by
  simp only [countUp]
  omega

theorem Mgmt.flag_raiseIf (m : Mgmt) (c : Bool) (e f : Event) :
    (m.raiseIf c e).flag f = (m.flag f || (c && decide (f = e))) := by
  by_cases h : f = e
  · subst h
    rw [Mgmt.flag_raiseIf_self, decide_eq_true rfl, Bool.and_true]
  · rw [m.flag_raiseIf_ne c e h, decide_eq_false h, Bool.and_false, Bool.or_false]

theorem Mgmt.expire_eq (m : Mgmt) (n : Nat) : m.expire n = { m with
    counters := { m.counters with expiries := countUp n m.counters.expiries }, flags := (m.expire n).flags } := by
  rw [Mgmt.expire, Mgmt.raiseIf_eq]

theorem Mgmt.flag_expire (m : Mgmt) (n : Nat) (f : Event) :
    (m.expire n).flag f = (m.flag f || (n != 0 && decide (f = .expired))) := by
  rw [Mgmt.expire, Mgmt.flag_raiseIf]
  rfl

theorem Mgmt.exit_eq (m : Mgmt) (n : Nat) (dropped : Bool) (st : StationState) : m.exit n dropped st = { m with
    counters := { m.counters with expiries := countUp n m.counters.expiries }, flags := (m.exit n dropped st).flags } := by
  rw [Mgmt.exit, Mgmt.raiseIf_eq, Mgmt.raiseIf_eq, Mgmt.raiseIf_eq, Mgmt.expire_eq]

theorem Mgmt.flag_exit (m : Mgmt) (n : Nat) (dropped : Bool) (st : StationState) (f : Event) :
    (m.exit n dropped st).flag f = (m.flag f || (n != 0 && decide (f = .expired)) || ((dropped && decide (f = .dirDrop))
      || (st == .fenced && decide (f = .fenced)) || (st == .excluded && decide (f = .excluded)))) := by
  rw [Mgmt.exit, Mgmt.flag_raiseIf, Mgmt.flag_raiseIf, Mgmt.flag_raiseIf, Mgmt.flag_expire]
  simp only [Bool.or_assoc]

/-! ### The registers of the Station Controller through a mark -/

section
variable (v : State)

@[simp] theorem State.enterFenced_ctl : v.enterFenced.ctl = v.ctl.out .fenced := by
  simp [State.enterFenced, State.raise, State.modMgmt, State.dropDirectives_eq, State.flush_eq, State.reportExpired_eq, Control.out]

@[simp] theorem State.enterExcluded_ctl (cause : Cause) :
    (v.enterExcluded cause).ctl = { v.ctl.out .excluded with cause := cause } := by
  simp [State.enterExcluded, State.raise, State.modMgmt, State.modCtl, State.dropDirectives_eq, State.flush_eq,
    State.reportExpired_eq, Control.out]

@[simp] theorem State.endDrain_ctl : v.endDrain.ctl = v.ctl.out .quiet := by rw [State.endDrain_eq]; rfl

@[simp] theorem State.enterJoining_ctl : v.enterJoining.ctl = { v.ctl with station := .joining, streak := 0 } := rfl
@[simp] theorem State.enterResync_ctl : v.enterResync.ctl = { v.ctl with station := .resync, streak := 0 } := rfl
@[simp] theorem State.enterActive_ctl : v.enterActive.ctl = { v.ctl with station := .active } := rfl

theorem State.matched_ctl : v.matched.ctl =
    if satInc 2 v.ctl.streak = 2 then { v.ctl with station := .active, streak := satInc 2 v.ctl.streak }
    else { v.ctl with streak := satInc 2 v.ctl.streak } := by
  unfold State.matched
  split_ifs <;> rfl

theorem State.listenEpoch_ctl (pass : Bool) : (v.listenEpoch pass).ctl =
    if satInc 15 v.ctl.listenCount = v.plan.listenEpochs then
      if pass then { v.ctl with listenCount := satInc 15 v.ctl.listenCount, station := .joining, streak := 0 }
      else { v.ctl.out .excluded with listenCount := satInc 15 v.ctl.listenCount, cause := .plan }
    else { v.ctl with listenCount := satInc 15 v.ctl.listenCount } := by
  unfold State.listenEpoch
  split_ifs
  · rfl
  · rw [State.enterExcluded_ctl]; rfl
  · rfl

theorem State.drainEpoch_ctl : v.drainEpoch.ctl =
    if satInc 255 v.ctl.drainEpochs = v.settings.drainLimit then
      { v.ctl.out .quiet with drainEpochs := satInc 255 v.ctl.drainEpochs }
    else { v.ctl with drainEpochs := satInc 255 v.ctl.drainEpochs } := by
  unfold State.drainEpoch
  split_ifs
  · rw [State.endDrain_ctl]; rfl
  · rfl

/-- The registers after a confirmed result (R98, R99). -/
def Control.confirmed (c : Control) (result : Option TallyResult) : Control :=
  match result, c.station with
  | some .minority, .active => { c with station := .resync, streak := 0 }
  | some .match, .joining | some .match, .resync =>
    if satInc 2 c.streak = 2 then { c with station := .active, streak := satInc 2 c.streak }
    else { c with streak := satInc 2 c.streak }
  | some .mismatch, .joining | some .mismatch, .resync => { c with streak := 0 }
  | some .lone, .joining | some .lone, .resync => { c with station := .active }
  | _, _ => c

theorem State.applyResult_ctl : v.applyResult.ctl = v.ctl.confirmed v.census.result := by
  unfold State.applyResult Control.confirmed
  rcases v.census.result with _ | (_ | _ | _ | _ | _) <;> cases hst : v.ctl.station <;>
    simp [State.matched_ctl, State.modCtl, hst]

section
variable (cut vetoed pass : Bool) {v}

theorem State.controlMark_listening (h : v.ctl.station = .listening) :
    v.controlMark cut vetoed pass = v.listenEpoch pass := by simp only [State.controlMark, h]

theorem State.controlMark_serving (h : v.ctl.station = .joining ∨ v.ctl.station = .active ∨ v.ctl.station = .resync) :
    v.controlMark cut vetoed pass =
      if !cut && !vetoed && v.ownEvicted then v.enterFenced else if cut || vetoed then v else v.applyResult := by
  obtain h | h | h := h <;> simp only [State.controlMark, h]

theorem State.controlMark_leaving (h : v.ctl.station = .leaving) :
    v.controlMark cut vetoed pass = if !cut && !vetoed && v.ownEvicted then v.enterFenced else v.drainEpoch := by
  simp only [State.controlMark, h]

theorem State.controlMark_fenced (h : v.ctl.station = .fenced) :
    v.controlMark cut vetoed pass = if !cut && !vetoed && !v.ownEvicted then v.enterJoining else v := by
  simp only [State.controlMark, h]

theorem State.controlMark_idle (h : v.ctl.station = .booting ∨ v.ctl.station = .failsafe ∨ v.ctl.station = .quiet
    ∨ v.ctl.station = .excluded) : v.controlMark cut vetoed pass = v := by
  obtain h | h | h | h := h <;> simp only [State.controlMark, h]

/-- The station states by what the Station Controller does in them at a mark. -/
theorem StationState.cases_at_mark (st : StationState) : st = .listening ∨ (st = .joining ∨ st = .active ∨ st = .resync)
    ∨ st = .leaving ∨ st = .fenced ∨ (st = .booting ∨ st = .failsafe ∨ st = .quiet ∨ st = .excluded) := by
  cases st <;> simp

/-- What the Station Controller does at a mark reads nothing that the ageing writes. -/
theorem State.controlMark_agedStore_ctl (v : State) :
    (v.agedStore.controlMark cut vetoed pass).ctl = (v.controlMark cut vetoed pass).ctl := by
  have hctl : v.agedStore.ctl = v.ctl := v.agedStore_ctl
  have howned : v.agedStore.ownEvicted = v.ownEvicted := by rw [State.agedStore_eq]; rfl
  have hplan : v.agedStore.plan = v.plan := by rw [State.agedStore_eq]
  have hsettings : v.agedStore.settings = v.settings := by rw [State.agedStore_eq]
  have hresult : v.agedStore.census.result = v.census.result := by rw [State.agedStore_eq]
  obtain h | h | h | h | h := v.ctl.station.cases_at_mark
  · rw [State.controlMark_listening _ _ _ h, State.controlMark_listening _ _ _ (by rwa [hctl]), State.listenEpoch_ctl,
      State.listenEpoch_ctl, hctl, hplan]
  · rw [State.controlMark_serving _ _ _ h, State.controlMark_serving _ _ _ (by rwa [hctl]), howned]
    split_ifs <;> simp only [State.enterFenced_ctl, State.applyResult_ctl, hctl, hresult]
  · rw [State.controlMark_leaving _ _ _ h, State.controlMark_leaving _ _ _ (by rwa [hctl]), howned]
    split_ifs <;> simp only [State.enterFenced_ctl, State.drainEpoch_ctl, hctl, hsettings]
  · rw [State.controlMark_fenced _ _ _ h, State.controlMark_fenced _ _ _ (by rwa [hctl]), howned]
    split_ifs <;> simp only [State.enterJoining_ctl, hctl]
  · rw [State.controlMark_idle _ _ _ h, State.controlMark_idle _ _ _ (by rwa [hctl]), hctl]

/-- The registers stay in Leaving only where they were, with the directives kept. -/
theorem State.controlMark_ctl_leaving (h : (v.controlMark cut vetoed pass).ctl.station = .leaving) :
    v.ctl.station = .leaving ∧ (v.controlMark cut vetoed pass).ctl.queue = v.ctl.queue := by
  obtain hst | hst | hst | hst | hst := v.ctl.station.cases_at_mark
  · rw [State.controlMark_listening _ _ _ hst, State.listenEpoch_ctl] at h
    split_ifs at h <;> simp_all [Control.out]
  · rw [State.controlMark_serving _ _ _ hst] at h
    split_ifs at h
    · simp [Control.out] at h
    · simp_all
    · rw [State.applyResult_ctl] at h
      unfold Control.confirmed at h
      split at h <;> (try split_ifs at h) <;> simp_all
  · rw [State.controlMark_leaving _ _ _ hst] at h ⊢
    refine ⟨hst, ?_⟩
    split_ifs at h ⊢
    · simp [Control.out] at h
    · rw [State.drainEpoch_ctl] at h ⊢
      split_ifs at h ⊢
      · simp [Control.out] at h
      · rfl
  · rw [State.controlMark_fenced _ _ _ hst] at h
    split_ifs at h <;> simp_all
  · rw [State.controlMark_idle _ _ _ hst] at h ⊢
    exact ⟨h, rfl⟩

end

end

/-! ### The control's change and the ageing in one -/

/-- The registers after the control's change to `c` and the ageing, in the order that `first` says: a drain that the ageing
ends is the ageing's (R106, R146). -/
def State.markedCtl (v : State) (first : Bool) (c : Control) : Control :=
  if v.drainsByAgeing then (if first then v.ctl.out .quiet else if c.station = .leaving then c.out .quiet else c) else c

/-- Whether the control's change flushes the store before the ageing comes to it (R146). -/
def State.flushesFirst (v : State) (first : Bool) (c : Control) : Bool :=
  !first && (c.station != v.ctl.station && isOut c.station)

/-- The state after the control's change to `c` and the ageing. -/
def State.marked (v : State) (first : Bool) (c : Control) : State :=
  if v.flushesFirst first c then (v.turned c).agedStore else v.agedStore.turned (v.markedCtl first c)

section
variable (v : State)

theorem State.age_eq_marked : v.age = v.marked true v.ctl := v.age_eq_turned

theorem State.turned_agedStore {c : Control} (h : (c.station != v.ctl.station && isOut c.station) = false) :
    (v.turned c).agedStore = v.agedStore.turned c := by
  simp [State.agedStore_eq, State.turned, h, State.settings, inUse]

theorem State.age_of_not_leaving (hdrain : v.ctl.station ≠ .leaving) : v.age = v.agedStore := by
  rw [v.age_eq_turned, if_neg (by simp [State.drainsByAgeing, hdrain]), ← v.agedStore_ctl, State.turned_self]

theorem State.controlAndAge_eq_marked (first cut vetoed pass : Bool) :
    v.controlAndAge first (fun t => t.controlMark cut vetoed pass) =
      v.marked first (v.controlMark cut vetoed pass).ctl := by
  cases first with
  | true =>
    rw [State.controlAndAge, if_pos rfl, State.marked, if_neg (by simp [State.flushesFirst]), v.age_eq_turned, State.markedCtl]
    cases hd : v.drainsByAgeing with
    | true => exact State.controlMark_idle _ _ _ (.inr (.inr (.inl rfl)))
    | false =>
      have hself : v.agedStore.turned v.ctl = v.agedStore := by
        conv_lhs => rw [← v.agedStore_ctl, State.turned_self]
      simp only [Bool.false_eq_true, if_false]
      rw [hself, ← State.controlMark_agedStore_ctl]
      exact State.Turns.controlMark _ _ _ _
  | false =>
    have hturn := State.Turns.controlMark v cut vetoed pass
    have hleaving := State.controlMark_ctl_leaving cut vetoed pass (v := v)
    rw [State.controlAndAge, if_neg (by decide)]
    change State.age (v.controlMark cut vetoed pass) = _
    generalize hc : (v.controlMark cut vetoed pass).ctl = c at hleaving
    rw [hturn, hc, State.marked]
    have hctl : (v.turned c).ctl = c := rfl
    by_cases hflush : (c.station != v.ctl.station && isOut c.station) = true
    · have hst : c.station ≠ .leaving := by rintro h; simp [h, isOut] at hflush
      rw [if_pos (by simpa [State.flushesFirst] using hflush), State.age_of_not_leaving _ hst]
    · rw [if_neg (by simpa [State.flushesFirst] using hflush)]
      have haged := v.turned_agedStore (Bool.eq_false_iff.mpr hflush)
      by_cases hst : c.station = .leaving
      · obtain ⟨hv, hq⟩ := hleaving hst
        have hsame : c.station = v.ctl.station := hst.trans hv.symm
        have hdrains : (v.turned c).drainsByAgeing = v.drainsByAgeing := by
          rw [v.turned_of_eq hsame]
          simp [State.drainsByAgeing, State.agedStore_eq, hst, hv, State.settings]
        rw [State.age_eq_turned, hdrains, haged, hctl, State.markedCtl]
        cases v.drainsByAgeing with
        | false => exact State.turned_self _
        | true =>
          simp only [if_true, Bool.false_eq_true, if_false, if_pos hst]
          rw [State.turned_of_eq (v := v.agedStore) (by rw [v.agedStore_ctl, hsame])]
          exact State.turned_turned _ (by rw [v.agedStore_ctl, hsame]) (by rw [v.agedStore_ctl, hq])
      · rw [State.age_of_not_leaving _ hst, haged, State.markedCtl]
        simp [hst]

end

end Sys2Proof.Machine

/-! PROOF. A mark in one form, continued: what each field of the state is after the control's change and the ageing, and
after the mark's other work. -/

namespace Sys2Proof.Machine

open Sys2Proof

/-! ### The store aged -/

theorem Store.length_aged_add (st : Store) (limit : Nat) :
    (st.aged limit).length + (st.ageing limit).held.length = st.held.length := by
  rw [st.held_ageing, List.length_map, Store.aged]
  exact (List.length_eq_length_filter_add _).symm

theorem Store.ageing_empty (st : Store) (limit : Nat) : st.empty.ageing limit = st.empty := by
  simp [Store.ageing, Store.empty]

theorem Store.empty_ageing (st : Store) (limit : Nat) : (st.ageing limit).empty = st.empty := rfl

/-! ### The control's change and the ageing -/

/-- Whether the registers `c` take the station to Quiet, Fenced or Excluded. -/
def State.outTo (v : State) (c : Control) : Bool := c.station != v.ctl.station && isOut c.station

theorem State.outTo_iff (v : State) (c : Control) : v.outTo c = true ↔
    c.station ≠ v.ctl.station ∧ (c.station = .quiet ∨ c.station = .fenced ∨ c.station = .excluded) := by
  rw [State.outTo, Bool.and_eq_true, bne_iff_ne, isOut_iff]

section
variable (v : State) (first : Bool) (c : Control)

/-- A control that flushes first is past what the ageing might end. -/
theorem State.markedCtl_of_flushesFirst (h : v.flushesFirst first c = true) :
    v.markedCtl first c = c ∧ v.outTo c = true := by
  simp only [State.flushesFirst, Bool.and_eq_true, Bool.not_eq_true'] at h
  obtain ⟨rfl, hne, hout⟩ := h
  have hst : c.station ≠ .leaving := by rintro h; rw [h] at hout; cases hout
  refine ⟨?_, by rw [State.outTo, hne, hout]; rfl⟩
  simp [State.markedCtl, hst]

/-- The two orders, by the registers they come to. -/
theorem State.marked_cases :
    (v.flushesFirst first c = true ∧ v.outTo (v.markedCtl first c) = true
      ∧ v.marked first c = (v.turned (v.markedCtl first c)).agedStore)
    ∨ (v.flushesFirst first c = false ∧ v.marked first c = v.agedStore.turned (v.markedCtl first c)) := by
  unfold State.marked
  cases h : v.flushesFirst first c with
  | true =>
    obtain ⟨hk, hout⟩ := v.markedCtl_of_flushesFirst first c h
    rw [hk]
    exact .inl ⟨rfl, hout, rfl⟩
  | false => exact .inr ⟨rfl, rfl⟩

@[simp] theorem State.marked_ctl : (v.marked first c).ctl = v.markedCtl first c := by
  obtain ⟨-, -, h⟩ | ⟨-, h⟩ := v.marked_cases first c <;> rw [h]
  · exact State.agedStore_ctl _
  · rfl

/-- What neither the control's change nor the ageing writes. -/
theorem State.marked_keeps : (v.marked first c).alloc = v.alloc ∧ (v.marked first c).census = v.census
    ∧ (v.marked first c).loader = v.loader ∧ (v.marked first c).pending = v.pending
    ∧ (v.marked first c).resetLow = v.resetLow := by
  obtain ⟨-, -, h⟩ | ⟨-, h⟩ := v.marked_cases first c <;> rw [h] <;> simp [State.agedStore_eq, State.turned]

theorem State.marked_sbi : (v.marked first c).sbi =
    if (v.markedCtl first c).station = v.ctl.station then v.sbi else v.sbi.releaseFor (v.markedCtl first c).station := by
  obtain ⟨-, -, h⟩ | ⟨-, h⟩ := v.marked_cases first c <;> rw [h] <;> simp [State.agedStore_eq, State.turned]

theorem State.marked_meter : (v.marked first c).meter =
    if (v.markedCtl first c).station = v.ctl.station then v.meter else v.meter.enter (v.markedCtl first c).station := by
  obtain ⟨-, -, h⟩ | ⟨-, h⟩ := v.marked_cases first c <;> rw [h] <;> simp [State.agedStore_eq, State.turned]

theorem State.marked_monitors : (v.marked first c).monitors =
    if (v.markedCtl first c).station ≠ v.ctl.station ∧ (v.markedCtl first c).station = .active then
      Vector.ofFn fun t : Fin 4 =>
        if inUse v t then v.monitors[t].endMask v.settings.monitors[t].debounce else v.monitors[t]
    else v.monitors := by
  obtain ⟨-, -, h⟩ | ⟨-, h⟩ := v.marked_cases first c <;> rw [h] <;>
    simp [State.agedStore_eq, State.turned, inUse, State.settings]

theorem State.marked_store : (v.marked first c).store =
    if v.outTo (v.markedCtl first c) then v.store.empty else v.store.ageing v.settings.ageLimit := by
  obtain ⟨-, hout, h⟩ | ⟨-, h⟩ := v.marked_cases first c <;> rw [h]
  · have hout' := hout
    rw [State.outTo] at hout'
    simp [State.agedStore_eq, State.turned, hout, hout', Store.ageing_empty]
  · rw [State.outTo]
    simp [State.agedStore_eq, State.turned, Store.empty_ageing]

/-- The messages of the mark: those of the ageing, and those of an entry that flushes, in the order that they are taken. -/
theorem State.marked_sent : (v.marked first c).sent = v.sent ++
    if v.outTo (v.markedCtl first c) then
      let reason := exitReason (v.markedCtl first c).station
      if v.flushesFirst first c then v.store.held.map fun (d : Descriptor) => LinkMessage.expired d.tag reason
      else (v.store.aged v.settings.ageLimit).map (fun (d : Descriptor) => LinkMessage.expired d.tag .age)
        ++ (v.store.held.filter fun d => d.age != v.settings.ageLimit).map fun (d : Descriptor) =>
            LinkMessage.expired d.tag reason
    else (v.store.aged v.settings.ageLimit).map fun (d : Descriptor) => LinkMessage.expired d.tag .age := by
  obtain ⟨hf, hout, h⟩ | ⟨hf, h⟩ := v.marked_cases first c <;> rw [h, hf]
  · have hout' := hout
    rw [State.outTo] at hout'
    simp [State.agedStore_eq, State.turned, hout, hout', Store.aged, Store.held_empty]
  · cases hout : v.outTo (v.markedCtl first c) with
    | true =>
      rw [State.outTo] at hout
      simp [State.agedStore_eq, State.turned, hout, Store.held_ageing, Function.comp_def]
    | false =>
      rw [State.outTo] at hout
      simp [State.agedStore_eq, State.turned, hout]

/-- How many descriptors the mark expires (R109, R145). -/
def State.markExpiries : Nat :=
  if v.outTo (v.markedCtl first c) then v.store.held.length else (v.store.aged v.settings.ageLimit).length

/-- The management port at an entry that flushes and in the ageing, in either order. -/
theorem State.marked_mgmt_cases :
    (v.outTo (v.markedCtl first c) = true ∧ ∃ a b, a + b = v.markExpiries first c ∧ ((v.marked first c).mgmt =
        (v.mgmt.expire a).exit b (!v.ctl.queue.isEmpty) (v.markedCtl first c).station
      ∨ (v.marked first c).mgmt = (v.mgmt.exit a (!v.ctl.queue.isEmpty) (v.markedCtl first c).station).expire b))
    ∨ (v.outTo (v.markedCtl first c) = false ∧ (v.marked first c).mgmt = v.mgmt.expire (v.markExpiries first c)) := by
  obtain ⟨hf, hout, h⟩ | ⟨hf, h⟩ := v.marked_cases first c <;> rw [h]
  · refine .inl ⟨hout, v.store.held.length, 0, by rw [State.markExpiries, if_pos hout]; rfl, .inr ?_⟩
    rw [State.outTo] at hout
    simp [State.agedStore_eq, State.turned, hout, Store.aged, Store.held_empty]
  · cases hout : v.outTo (v.markedCtl first c) with
    | true =>
      refine .inl ⟨rfl, (v.store.aged v.settings.ageLimit).length, (v.store.ageing v.settings.ageLimit).held.length, ?_, .inl ?_⟩
      · rw [State.markExpiries, if_pos hout, Store.length_aged_add]
      · rw [State.outTo] at hout
        simp [State.agedStore_eq, State.turned, hout]
    | false =>
      refine .inr ⟨rfl, ?_⟩
      rw [State.markExpiries, hout, if_neg (by decide)]
      rw [State.outTo] at hout
      simp [State.agedStore_eq, State.turned, hout]

/-- The management port: the expiries counted, and the flags of what happened raised. -/
theorem State.marked_mgmt : (v.marked first c).mgmt = { v.mgmt with
    counters := { v.mgmt.counters with expiries := countUp (v.markExpiries first c) v.mgmt.counters.expiries }
    flags := (v.marked first c).mgmt.flags } := by
  obtain ⟨-, a, b, hab, h | h⟩ | ⟨-, h⟩ := v.marked_mgmt_cases first c
  · rw [h, Mgmt.exit_eq, Mgmt.expire_eq, ← hab, countUp_countUp]
  · rw [h, Mgmt.expire_eq, Mgmt.exit_eq, ← hab, countUp_countUp]
  · rw [h, Mgmt.expire_eq]

theorem State.marked_flag (f : Event) : (v.marked first c).mgmt.flag f =
    (v.mgmt.flag f || (v.markExpiries first c != 0 && decide (f = .expired))
      || (v.outTo (v.markedCtl first c) && ((!v.ctl.queue.isEmpty && decide (f = .dirDrop))
        || ((v.markedCtl first c).station == .fenced && decide (f = .fenced))
        || ((v.markedCtl first c).station == .excluded && decide (f = .excluded))))) := by
  have hsum (a b : Nat) : (a + b != 0) = (a != 0 || b != 0) := by cases a <;> cases b <;> simp
  obtain ⟨hout, a, b, hab, h | h⟩ | ⟨hout, h⟩ := v.marked_mgmt_cases first c
  · rw [h, Mgmt.flag_exit, Mgmt.flag_expire, ← hab, hout, hsum]
    grind
  · rw [h, Mgmt.flag_expire, Mgmt.flag_exit, ← hab, hout, hsum]
    grind
  · rw [h, Mgmt.flag_expire, hout, Bool.false_and, Bool.or_false]

end

end Sys2Proof.Machine

/-! PROOF. A mark in one form, continued: the end of the epoch before the control's change, and the mark's other work after
it (R73, R77, R117, R51, R129, R140, R149). -/

namespace Sys2Proof.Machine

open Sys2Proof

/-! ### The end of an epoch -/

section
variable (s : State) (cut : Bool)

theorem State.voidAtCut_eq (vetoed : Bool) : s.voidAtCut vetoed = { s with
    alloc := s.alloc.formVoid s.plan
    mgmt := { s.mgmt with counters := { s.mgmt.counters with
      voidEpochs := if vetoed then s.mgmt.counters.voidEpochs else countUp 1 s.mgmt.counters.voidEpochs } } } := by
  cases vetoed <;> rfl

theorem State.promote_eq : s.promote = { s with
    alloc := s.alloc.promote
    mgmt := s.mgmt.raiseIf (s.alloc.promote.standing.origin == .fallback && s.alloc.standing.origin != .fallback) .fallback } := by
  simp [State.promote, State.raiseIf_eq, State.modAlloc]

/-- The Directive Queue at the end of an epoch (R117). -/
def Control.completed (c : Control) (cut : Bool) : Control :=
  if c.awaiting then { c with queue := if cut then c.queue else c.queue.tail, awaiting := false } else c

theorem Control.completed_eq (c : Control) : c.completed cut = { c with
    queue := if c.awaiting && !cut then c.queue.tail else c.queue, awaiting := false } := by
  unfold Control.completed
  obtain ⟨⟩ := c
  rename_i awaiting
  cases awaiting <;> cases cut <;> rfl

theorem State.completeDirective_eq : s.completeDirective cut = { s with
    ctl := s.ctl.completed cut, mgmt := s.mgmt.raiseIf (s.ctl.awaiting && !cut) .dirDone } := by
  unfold State.completeDirective Control.completed
  cases s.ctl.awaiting <;> cases cut <;> rfl

/-- What is promoted at the end of an epoch (R73, R77). -/
def State.promoted : Alloc := (if cut then s.alloc.formVoid s.plan else s.alloc).promote

/-- The counters at the end of an epoch: a void epoch not yet counted is (R80). -/
def State.endCounters : Counters := { s.mgmt.counters with
  voidEpochs := if cut && !s.decidedVoid then countUp 1 s.mgmt.counters.voidEpochs else s.mgmt.counters.voidEpochs }

/-- The end of an epoch at the Allocation Engine and the Directive Queue. -/
theorem State.endEpoch_eq : s.endEpoch cut = { s with
    alloc := s.promoted cut
    ctl := s.ctl.completed cut
    mgmt := (({ s.mgmt with counters := s.endCounters cut } : Mgmt).raiseIf ((s.promoted cut).standing.origin == .fallback
      && s.alloc.standing.origin != .fallback) .fallback).raiseIf (s.ctl.awaiting && !cut) .dirDone } := by
  cases cut <;> cases hd : s.decidedVoid <;>
    simp [State.endEpoch, State.voidAtCut_eq, State.promote_eq, State.completeDirective_eq, State.promoted, State.endCounters,
      hd, Alloc.formVoid]

end

/-! ### The mark's other work -/

section
variable (s : State)

/-- The monitors after a mark (R129). -/
def State.markedMonitors : Vector Monitor 4 :=
  Vector.ofFn fun t : Fin 4 => if inUse s t then s.monitors[t].mark else s.monitors[t]

/-- Whether a monitor in use goes to Stale at a mark (R129, R130). -/
def State.goesStale : Bool := allTargets.any fun t => inUse s t && s.monitors[t].goesStale

/-- The credit counters after a mark (R149). -/
def State.reloadedCredits : Vector Int 12 :=
  Vector.ofFn fun q : Fin 12 =>
    reloaded s.admin.percents[queueTarget q] (s.reloadGrant q) s.settings.banks[queueClass q] s.meter.credits[q]

theorem State.beginEpoch_eq : s.beginEpoch = { s with
    store := s.store.shift
    monitors := s.markedMonitors
    census := s.census.newEpoch
    meter := { s.meter with halt := false, credits := s.reloadedCredits }
    mgmt := s.mgmt.raiseIf s.goesStale .stale } := by
  rw [State.beginEpoch, State.markMonitors, State.raiseIf_eq]
  rfl

end

/-! ### A mark delivered -/

section
variable (s : State) (ends cut first : Bool)

/-- The state as the control and the ageing of a mark find it. -/
def State.endedIf : State := if ends then s.endEpoch cut else s

/-- The registers that the Station Controller takes at a mark. -/
def State.turnAt : Control :=
  if ends then ((s.endEpoch cut).controlMark cut s.decidedVoid (planCheck s.planSplit)).ctl else s.ctl

/-- The state before the mark's other work. -/
def State.beforeWork : State := (s.endedIf ends cut).marked (first || !ends) (s.turnAt ends cut)

/-- The registers of the Station Controller after a mark. -/
def State.ctlAfter : Control := (s.endedIf ends cut).markedCtl (first || !ends) (s.turnAt ends cut)

theorem State.deliverMark_eq : s.deliverMark ends cut first = (s.beforeWork ends cut first).beginEpoch := by
  cases ends with
  | true =>
    rw [State.deliverMark, if_pos rfl, State.epochMark, State.controlAndAge_eq_marked, State.beforeWork, Bool.not_true,
      Bool.or_false]
    rfl
  | false =>
    rw [State.deliverMark, if_neg (by decide), State.firstMark, State.age_eq_marked, State.beforeWork, Bool.not_false,
      Bool.or_true]
    rfl

end

end Sys2Proof.Machine

/-! PROOF. A mark delivered to the blocks, field by field. -/

namespace Sys2Proof.Machine

open Sys2Proof

section
variable (s : State) (ends cut first : Bool)

/-! ### What the control of a mark finds -/

theorem Control.completed_station (c : Control) : (c.completed cut).station = c.station := by
  unfold Control.completed
  split_ifs <;> rfl

@[simp] theorem State.endedIf_station : (s.endedIf ends cut).ctl.station = s.ctl.station := by
  cases ends with
  | true =>
    rw [State.endedIf, if_pos rfl, State.endEpoch_eq]
    exact Control.completed_station cut s.ctl
  | false => rfl

/-- What the end of an epoch leaves. -/
theorem State.endedIf_keeps : (s.endedIf ends cut).sbi = s.sbi ∧ (s.endedIf ends cut).census = s.census
    ∧ (s.endedIf ends cut).loader = s.loader ∧ (s.endedIf ends cut).pending = s.pending
    ∧ (s.endedIf ends cut).resetLow = s.resetLow ∧ (s.endedIf ends cut).monitors = s.monitors
    ∧ (s.endedIf ends cut).store = s.store ∧ (s.endedIf ends cut).meter = s.meter ∧ (s.endedIf ends cut).sent = s.sent := by
  cases ends with
  | true => rw [State.endedIf, if_pos rfl, State.endEpoch_eq]; exact ⟨rfl, rfl, rfl, rfl, rfl, rfl, rfl, rfl, rfl⟩
  | false => exact ⟨rfl, rfl, rfl, rfl, rfl, rfl, rfl, rfl, rfl⟩

/-- The directives that the control of a mark finds queued. -/
def State.queueAfter : List Directive := if ends then (s.ctl.completed cut).queue else s.ctl.queue

theorem State.endedIf_queue : (s.endedIf ends cut).ctl.queue = s.queueAfter ends cut := by
  cases ends with
  | true => rw [State.endedIf, if_pos rfl, State.endEpoch_eq]; rfl
  | false => rfl

/-- Whether a mark takes the station to Quiet, Fenced or Excluded. -/
def State.outAfter : Bool :=
  (s.ctlAfter ends cut first).station != s.ctl.station && isOut (s.ctlAfter ends cut first).station

theorem State.outTo_ctlAfter : (s.endedIf ends cut).outTo (s.ctlAfter ends cut first) = s.outAfter ends cut first := by
  rw [State.outTo, s.endedIf_station]
  rfl

theorem State.outAfter_iff : s.outAfter ends cut first = true ↔
    (s.ctlAfter ends cut first).station ≠ s.ctl.station ∧ ((s.ctlAfter ends cut first).station = .quiet
      ∨ (s.ctlAfter ends cut first).station = .fenced ∨ (s.ctlAfter ends cut first).station = .excluded) := by
  rw [State.outAfter, Bool.and_eq_true, bne_iff_ne, isOut_iff]

theorem State.endedIf_drains : (s.endedIf ends cut).drainsByAgeing = s.drainsByAgeing := by
  obtain ⟨-, -, hloader, -, -, -, hstore, -, -⟩ := s.endedIf_keeps ends cut
  simp only [State.drainsByAgeing, State.agedStore_eq, State.settings, s.endedIf_station, hloader, hstore]

/-! ### The blocks after a mark -/

theorem State.deliverMark_ctl : (s.deliverMark ends cut first).ctl = s.ctlAfter ends cut first := by
  rw [State.deliverMark_eq, State.beginEpoch_eq]
  exact State.marked_ctl _ _ _

theorem State.deliverMark_alloc : (s.deliverMark ends cut first).alloc = if ends then s.promoted cut else s.alloc := by
  rw [State.deliverMark_eq, State.beginEpoch_eq]
  refine (State.marked_keeps _ _ _).1.trans ?_
  cases ends with
  | true => rw [State.endedIf, if_pos rfl, State.endEpoch_eq]; rfl
  | false => rfl

theorem State.deliverMark_census : (s.deliverMark ends cut first).census = s.census.newEpoch := by
  rw [State.deliverMark_eq, State.beginEpoch_eq]
  refine congrArg Census.newEpoch ?_
  exact (State.marked_keeps _ _ _).2.1.trans (s.endedIf_keeps ends cut).2.1

theorem State.deliverMark_frame : (s.deliverMark ends cut first).loader = s.loader
    ∧ (s.deliverMark ends cut first).pending = s.pending ∧ (s.deliverMark ends cut first).resetLow = s.resetLow := by
  rw [State.deliverMark_eq, State.beginEpoch_eq]
  obtain ⟨-, -, hl, hp, hr⟩ := State.marked_keeps (s.endedIf ends cut) (first || !ends) (s.turnAt ends cut)
  obtain ⟨-, -, hl', hp', hr', -⟩ := s.endedIf_keeps ends cut
  exact ⟨hl.trans hl', hp.trans hp', hr.trans hr'⟩

theorem State.deliverMark_sbi : (s.deliverMark ends cut first).sbi =
    if (s.ctlAfter ends cut first).station = s.ctl.station then s.sbi
    else s.sbi.releaseFor (s.ctlAfter ends cut first).station := by
  rw [State.deliverMark_eq, State.beginEpoch_eq]
  refine (State.marked_sbi _ _ _).trans ?_
  rw [s.endedIf_station, (s.endedIf_keeps ends cut).1]
  rfl

theorem State.deliverMark_meter : (s.deliverMark ends cut first).meter =
    { (if (s.ctlAfter ends cut first).station = s.ctl.station then s.meter
        else s.meter.enter (s.ctlAfter ends cut first).station) with
      halt := false, credits := (s.beforeWork ends cut first).reloadedCredits } := by
  obtain ⟨-, -, -, -, -, -, -, hmeter, -⟩ := s.endedIf_keeps ends cut
  rw [State.deliverMark_eq, State.beginEpoch_eq]
  simp only [State.beforeWork, State.marked_meter, s.endedIf_station, hmeter]
  rfl

/-- The monitors before the mark's other work: at an entry to Active the masks are ended (R128). -/
theorem State.beforeWork_monitors (t : Fin 4) : (s.beforeWork ends cut first).monitors[t] =
    if ((s.ctlAfter ends cut first).station ≠ s.ctl.station ∧ (s.ctlAfter ends cut first).station = .active)
        ∧ inUse s t = true then s.monitors[t].endMask s.settings.monitors[t].debounce
    else s.monitors[t] := by
  obtain ⟨-, -, hloader, -, -, hmonitors, -⟩ := s.endedIf_keeps ends cut
  have huse : inUse (s.endedIf ends cut) t = inUse s t := by simp only [inUse, hloader]
  have hactive : ((s.endedIf ends cut).markedCtl (first || !ends) (s.turnAt ends cut)) = s.ctlAfter ends cut first := rfl
  rw [State.beforeWork, State.marked_monitors, s.endedIf_station, hmonitors, hactive, State.settings, hloader]
  by_cases he : (s.ctlAfter ends cut first).station ≠ s.ctl.station ∧ (s.ctlAfter ends cut first).station = .active
  · rw [if_pos he]
    by_cases hu : inUse s t = true
    · simp only [if_pos (And.intro he hu), Fin.getElem_fin, Vector.getElem_ofFn, Fin.eta, huse, if_pos hu]
    · simp only [if_neg (mt And.right hu), Fin.getElem_fin, Vector.getElem_ofFn, Fin.eta, huse, if_neg hu]
  · rw [if_neg he, if_neg (mt And.left he)]

theorem State.beforeWork_inUse (t : Fin 4) : inUse (s.beforeWork ends cut first) t = inUse s t := by
  simp only [inUse, State.beforeWork, (State.marked_keeps _ _ _).2.2.1, (s.endedIf_keeps ends cut).2.2.1]

theorem State.deliverMark_monitors (t : Fin 4) : (s.deliverMark ends cut first).monitors[t] =
    if inUse s t then
      (if (s.ctlAfter ends cut first).station ≠ s.ctl.station ∧ (s.ctlAfter ends cut first).station = .active then
        s.monitors[t].endMask s.settings.monitors[t].debounce else s.monitors[t]).mark
    else s.monitors[t] := by
  have hbefore := s.beforeWork_monitors ends cut first t
  rw [State.deliverMark_eq, State.beginEpoch_eq]
  simp only [State.markedMonitors, s.beforeWork_inUse]
  cases hu : inUse s t with
  | true => simp_all
  | false => simp_all

/-- The store after a mark: flushed or aged, and its arrivals shifted (R140, R145). -/
theorem State.deliverMark_store : (s.deliverMark ends cut first).store =
    (if s.outAfter ends cut first then s.store.empty else s.store.ageing s.settings.ageLimit).shift := by
  obtain ⟨-, -, hloader, -, -, -, hstore, -, -⟩ := s.endedIf_keeps ends cut
  rw [State.deliverMark_eq, State.beginEpoch_eq]
  refine congrArg Store.shift ?_
  rw [State.beforeWork, State.marked_store, ← s.outTo_ctlAfter, hstore, State.settings, hloader]
  rfl

/-- Whether an entry of the mark flushes the store before the ageing (R146). -/
def State.flushedFirst : Bool :=
  !(first || !ends) && ((s.turnAt ends cut).station != s.ctl.station && isOut (s.turnAt ends cut).station)

theorem State.deliverMark_sent : (s.deliverMark ends cut first).sent = s.sent ++
    if s.outAfter ends cut first then
      let reason := exitReason (s.ctlAfter ends cut first).station
      if s.flushedFirst ends cut first then
        s.store.held.map fun (d : Descriptor) => LinkMessage.expired d.tag reason
      else (s.store.aged s.settings.ageLimit).map (fun (d : Descriptor) => LinkMessage.expired d.tag .age)
        ++ (s.store.held.filter fun d => d.age != s.settings.ageLimit).map fun (d : Descriptor) =>
            LinkMessage.expired d.tag reason
    else (s.store.aged s.settings.ageLimit).map fun (d : Descriptor) => LinkMessage.expired d.tag .age := by
  obtain ⟨-, -, hloader, -, -, -, hstore, -, hsent⟩ := s.endedIf_keeps ends cut
  rw [State.deliverMark_eq, State.beginEpoch_eq]
  refine (State.marked_sent _ _ _).trans ?_
  rw [← s.outTo_ctlAfter, hsent, hstore, State.settings, hloader, State.flushesFirst, s.endedIf_station]
  rfl

/-- How many descriptors a mark expires (R109, R145). -/
def State.expiriesAt : Nat :=
  if s.outAfter ends cut first then s.store.held.length else (s.store.aged s.settings.ageLimit).length

theorem State.endedIf_markExpiries :
    (s.endedIf ends cut).markExpiries (first || !ends) (s.turnAt ends cut) = s.expiriesAt ends cut first := by
  obtain ⟨-, -, hloader, -, -, -, hstore, -, -⟩ := s.endedIf_keeps ends cut
  rw [State.expiriesAt, ← s.outTo_ctlAfter, State.markExpiries, hstore, State.settings, hloader]
  rfl

/-- Whether the end of an epoch promotes into origin Fallback (R76). -/
def State.toFallback : Bool :=
  ends && ((s.promoted cut).standing.origin == .fallback && s.alloc.standing.origin != .fallback)

theorem Monitor.goesStale_eq (m : Monitor) : m.goesStale = (decide (3 ≤ m.marks) && m.state != .stale) := by
  have hfour : satInc 4 m.marks = 4 ↔ 3 ≤ m.marks := by simp only [satInc]; omega
  unfold Monitor.goesStale Monitor.mark
  split_ifs with h
  · simp [hfour.mp h]
  · have hlt := mt hfour.mpr h
    cases m.state <;> simp [hlt]

theorem Monitor.goesStale_endMask (m : Monitor) (d : Nat) : (m.endMask d).goesStale = m.goesStale := by
  rw [Monitor.goesStale_eq, Monitor.goesStale_eq]
  unfold Monitor.endMask
  split_ifs with hm hd
  · rw [hm]; rfl
  · rw [hm]; rfl
  · rfl

/-- An entry to Active takes no monitor to Stale, nor keeps one from it (R128, R129). -/
theorem State.beforeWork_goesStale : (s.beforeWork ends cut first).goesStale = s.goesStale := by
  unfold State.goesStale
  refine congrArg allTargets.any (funext fun t => ?_)
  rw [s.beforeWork_inUse, s.beforeWork_monitors]
  split_ifs
  · rw [Monitor.goesStale_endMask]
  · rfl

/-- The counters after a mark. -/
theorem State.deliverMark_mgmt : (s.deliverMark ends cut first).mgmt = { s.mgmt with
    counters := { s.mgmt.counters with
      voidEpochs := if ends && (cut && !s.decidedVoid) then countUp 1 s.mgmt.counters.voidEpochs
        else s.mgmt.counters.voidEpochs
      expiries := countUp (s.expiriesAt ends cut first) s.mgmt.counters.expiries }
    flags := (s.deliverMark ends cut first).mgmt.flags } := by
  rw [State.deliverMark_eq, State.beginEpoch_eq, State.beforeWork]
  dsimp only
  rw [Mgmt.raiseIf_eq, State.marked_mgmt, s.endedIf_markExpiries]
  cases ends with
  | true =>
    rw [State.endedIf, if_pos rfl, State.endEpoch_eq]
    simp [State.endCounters]
  | false => rfl

/-- The flags after a mark, one by one. -/
theorem State.deliverMark_flag (f : Event) : (s.deliverMark ends cut first).mgmt.flag f =
    (s.mgmt.flag f || (s.toFallback ends cut && decide (f = .fallback)) || ((ends && (s.ctl.awaiting && !cut)) && decide (f = .dirDone))
      || (s.expiriesAt ends cut first != 0 && decide (f = .expired))
      || (s.outAfter ends cut first && ((!(s.queueAfter ends cut).isEmpty && decide (f = .dirDrop))
        || ((s.ctlAfter ends cut first).station == .fenced && decide (f = .fenced))
        || ((s.ctlAfter ends cut first).station == .excluded && decide (f = .excluded))))
      || (s.goesStale && decide (f = .stale))) := by
  rw [State.deliverMark_eq, State.beginEpoch_eq]
  dsimp only
  rw [Mgmt.flag_raiseIf, s.beforeWork_goesStale, State.beforeWork, State.marked_flag, s.endedIf_markExpiries, s.endedIf_queue]
  change ((((s.endedIf ends cut).mgmt.flag f || _) || ((s.endedIf ends cut).outTo (s.ctlAfter ends cut first) && _)) || _) = _
  rw [s.outTo_ctlAfter]
  have hended : (s.endedIf ends cut).mgmt.flag f = (s.mgmt.flag f || (s.toFallback ends cut && decide (f = .fallback))
      || ((ends && (s.ctl.awaiting && !cut)) && decide (f = .dirDone))) := by
    cases ends with
    | true =>
      rw [State.endedIf, if_pos rfl, State.endEpoch_eq]
      dsimp only
      rw [Mgmt.flag_raiseIf, Mgmt.flag_raiseIf]
      rfl
    | false => simp [State.endedIf, State.toFallback]
  rw [hended]
  rfl

end

end Sys2Proof.Machine

/-! PROOF. The commands that make a mark, as one mark delivered (R23, R37). -/

namespace Sys2Proof.Machine

open Sys2Proof

/-! ### Time up to a true mark -/

section
variable {s : State} {time : Nat}

theorem State.advanceTo_sbi_of_markAt (h : s.markAt time) :
    (s.advanceTo time).sbi = { s.sbi with timer := time, phase := s.sbi.phase.after time } := by
  obtain ⟨-, hrun, hle, hlimit⟩ := h
  have htimer : min (s.sbi.timer + (time - s.sbi.timer)) (max s.epochBitTimes s.sbi.timer) = time := by omega
  simp only [State.advanceTo, State.passTime_sbi, Sbi.passTime, hrun, if_true, htimer]

theorem Phase.after_eq_unaligned_iff (p : Phase) (n : Nat) : p.after n = .unaligned ↔ p = .unaligned :=
  ⟨Phase.after_eq_unaligned, fun h => by rw [h]; rfl⟩

theorem Phase.after_eq_stalled_iff (p : Phase) (n : Nat) : p.after n = .stalled ↔ p = .stalled := by
  rw [Phase.after_eq]
  split_ifs with h h' <;> simp_all

theorem Phase.after_eq_suspended_iff (p : Phase) (n : Nat) : p.after n = .suspended ↔ p = .suspended := by
  rw [Phase.after_eq]
  split_ifs with h h' <;> simp_all

theorem Sbi.cutBy_iff (b : Sbi) :
    b.cutBy = true ↔ b.phase ≠ .unaligned ∧ (b.phase = .stalled ∨ b.phase = .suspended ∨ b.timer < 9600) := by
  have hlimit : settleLimit = 9600 := rfl
  unfold Sbi.cutBy
  rw [hlimit]
  split <;> simp [*]

/-- Whether a true mark ends an epoch, and whether it cuts it, by the station before time brought it there (R42). -/
theorem State.inEpoch_of_markAt (h : s.markAt time) :
    (s.advanceTo time).sbi.inEpoch = decide (s.sbi.phase ≠ .unaligned) := by
  rw [State.advanceTo_sbi_of_markAt h, Sbi.inEpoch, Bool.eq_iff_iff]
  simp [Phase.after_eq_unaligned_iff]

theorem State.cutBy_of_markAt (h : s.markAt time) : (s.advanceTo time).sbi.cutBy =
    decide (s.sbi.phase ≠ .unaligned ∧ (s.sbi.phase = .stalled ∨ s.sbi.phase = .suspended ∨ time < 9600)) := by
  rw [State.advanceTo_sbi_of_markAt h, Bool.eq_iff_iff, Sbi.cutBy_iff]
  simp [Phase.after_eq_unaligned_iff, Phase.after_eq_stalled_iff, Phase.after_eq_suspended_iff]

end

/-! ### What precedes a mark -/

/-- What a command has done when its mark is delivered: time has passed for the pacer, and line faults, their event and
flag, the counters of marks and an ignored directive's traces are written (R23, R37, R120). -/
structure State.BeforeMark (s : State) (elapsed : Nat) (b : State) : Prop where
  ctl : b.ctl = s.ctl
  census : b.census = s.census
  store : b.store = s.store
  monitors : b.monitors = s.monitors
  sent : b.sent = s.sent
  loader : b.loader = s.loader
  pending : b.pending = s.pending
  resetLow : b.resetLow = s.resetLow
  meter : b.meter = s.meter.passTime elapsed
  vetoed : b.sbi.vetoed = s.sbi.vetoed
  running : b.sbi.running = s.sbi.running
  clash : b.sbi.clashStreak = s.sbi.clashStreak
  mgmt : b.mgmt = { s.mgmt with
    flags := b.mgmt.flags, bus := b.mgmt.bus, directive := b.mgmt.directive, counters := b.mgmt.counters }
  counters : b.mgmt.counters = { s.mgmt.counters with
    trueMarks := b.mgmt.counters.trueMarks, cutEpochs := b.mgmt.counters.cutEpochs
    ignoredDirectives := b.mgmt.counters.ignoredDirectives }
  flags : ∀ f, f ≠ .line → b.mgmt.flag f = s.mgmt.flag f

/-- What a mark leaves in the SBI (R23, R37). -/
structure Sbi.Restarted (b r : Sbi) : Prop where
  timer : r.timer = 0
  txBuffer : r.txBuffer = none
  readback : r.readback = .idle
  vetoDrive : r.vetoDrive = false
  vetoAsked : r.vetoAsked = false
  vetoed : r.vetoed = false
  windowClosed : r.windowClosed = false
  running : r.running = b.running
  clash : r.clashStreak = b.clashStreak

/-! ### Local marks -/

/-- The state as a local mark is delivered to its blocks: the cut counted (R42). -/
def State.countCut (s : State) : State := s.modCounters fun c => { c with cutEpochs := countUp 1 c.cutEpochs }

/-- The SBI after a local mark. -/
def State.localSbi (s : State) (first : Bool) : Sbi := (s.countCut.deliverMark true true first).sbi.newEpoch

theorem State.localMark_eq (s : State) (first : Bool) :
    s.localMark first = { s.countCut.deliverMark true true first with sbi := s.localSbi first } := rfl

theorem State.deliverMark_sbi_keeps (s : State) (ends cut first : Bool) :
    (s.deliverMark ends cut first).sbi.running = s.sbi.running
    ∧ (s.deliverMark ends cut first).sbi.clashStreak = s.sbi.clashStreak
    ∧ (s.deliverMark ends cut first).sbi.seq = s.sbi.seq ∧ (s.deliverMark ends cut first).sbi.phase = s.sbi.phase
    ∧ (s.deliverMark ends cut first).sbi.faults = s.sbi.faults := by
  rw [State.deliverMark_sbi]
  split_ifs <;> exact ⟨rfl, rfl, rfl, rfl, rfl⟩

theorem State.localSbi_restarted (s : State) (first : Bool) : s.sbi.Restarted (s.localSbi first) := by
  obtain ⟨hrun, hclash, -⟩ := s.countCut.deliverMark_sbi_keeps true true first
  exact ⟨rfl, rfl, rfl, rfl, rfl, rfl, rfl, hrun, hclash⟩

theorem State.localSbi_keeps (s : State) (first : Bool) : (s.localSbi first).seq = s.sbi.seq
    ∧ (s.localSbi first).phase = s.sbi.phase ∧ (s.localSbi first).faults = s.sbi.faults := by
  obtain ⟨-, -, hseq, hphase, hfaults⟩ := s.countCut.deliverMark_sbi_keeps true true first
  exact ⟨hseq, hphase, hfaults⟩

/-- SYNC after a mark: an entry to a state that does not drive it releases it (R19). -/
theorem State.deliverMark_syncDrive (s : State) (ends cut first : Bool) : (s.deliverMark ends cut first).sbi.syncDrive =
    if (s.ctlAfter ends cut first).station ≠ s.ctl.station ∧ drivesSync (s.ctlAfter ends cut first).station = false then
      .released
    else s.sbi.syncDrive := by
  rw [State.deliverMark_sbi]
  by_cases hst : (s.ctlAfter ends cut first).station = s.ctl.station
  · simp [hst]
  · cases hd : drivesSync (s.ctlAfter ends cut first).station <;> simp [hst, hd, Sbi.releaseFor]

/-! ### True marks -/

/-- The state as a true mark is delivered to its blocks. -/
def State.beforeTrueMark (s : State) : State := s.settleDue.countMark s.sbi.cutBy

/-- The SBI after a true mark. -/
def State.trueSbi (s : State) (first : Bool) : Sbi :=
  (s.beforeTrueMark.deliverMark s.sbi.inEpoch s.sbi.cutBy first).sbiTrueMark.sbi

theorem State.sbiTrueMark_eq (s : State) : s.sbiTrueMark = { s with sbi := { s.sbi.newEpoch with
    faults := { s.sbi.faults with syncLow := false, syncHigh := false }, seq := s.sbi.seq + 1, phase := .markGuard
    syncDrive := if s.sbi.syncDrive = .attempting then .marking else s.sbi.syncDrive } } := by
  have hline : (!s.sbi.faults.any && ({ s.sbi.faults with syncLow := false, syncHigh := false } : LineFaults).any) = false := by
    cases hl : s.sbi.faults.vetoLow <;> cases hd : s.sbi.faults.sdatLow <;> simp [LineFaults.any, hl, hd]
  rw [State.sbiTrueMark, State.modFaults, State.setFaults_eq, hline]
  rfl

theorem State.takeTrueMark_eq (s : State) (first : Bool) : s.takeTrueMark first =
    { s.beforeTrueMark.deliverMark s.sbi.inEpoch s.sbi.cutBy first with sbi := s.trueSbi first } := by
  have hmark : s.takeTrueMark first = (s.beforeTrueMark.deliverMark s.sbi.inEpoch s.sbi.cutBy first).sbiTrueMark := rfl
  rw [hmark, State.trueSbi, State.sbiTrueMark_eq]

theorem State.beforeTrueMark_sbi (s : State) : s.beforeTrueMark.sbi = s.sbi := s.settleDue_sbi

theorem State.trueSbi_restarted (s : State) (first : Bool) : s.sbi.Restarted (s.trueSbi first) := by
  obtain ⟨hrun, hclash, -⟩ := s.beforeTrueMark.deliverMark_sbi_keeps s.sbi.inEpoch s.sbi.cutBy first
  rw [s.beforeTrueMark_sbi] at hrun hclash
  rw [State.trueSbi, State.sbiTrueMark_eq]
  exact ⟨rfl, rfl, rfl, rfl, rfl, rfl, rfl, hrun, hclash⟩

theorem State.countIgnored_mgmt (s : State) (d : Option DirectiveFrame) : (s.countIgnored d).mgmt = { s.mgmt with
    directive := (s.countIgnored d).mgmt.directive, counters := { s.mgmt.counters with
      ignoredDirectives := (s.countIgnored d).mgmt.counters.ignoredDirectives } } := by
  unfold State.countIgnored
  repeat' split
  all_goals rfl

theorem State.settleDue_mgmt (s : State) : s.settleDue.mgmt = { s.mgmt with
    directive := s.settleDue.mgmt.directive, counters := { s.mgmt.counters with
      ignoredDirectives := s.settleDue.mgmt.counters.ignoredDirectives } } := by
  unfold State.settleDue
  split_ifs
  · exact s.countIgnored_mgmt _
  · rfl

/-- What a settle that is due leaves, at a mark too. -/
theorem State.settleDue_keeps (s : State) : s.settleDue.census = s.census ∧ s.settleDue.store = s.store
    ∧ s.settleDue.monitors = s.monitors ∧ s.settleDue.sent = s.sent ∧ s.settleDue.loader = s.loader
    ∧ s.settleDue.pending = s.pending ∧ s.settleDue.resetLow = s.resetLow ∧ s.settleDue.meter = s.meter := by
  have hcount (d : Option DirectiveFrame) : (s.countIgnored d).census = s.census ∧ (s.countIgnored d).store = s.store
      ∧ (s.countIgnored d).monitors = s.monitors ∧ (s.countIgnored d).sent = s.sent ∧ (s.countIgnored d).loader = s.loader
      ∧ (s.countIgnored d).pending = s.pending ∧ (s.countIgnored d).resetLow = s.resetLow
      ∧ (s.countIgnored d).meter = s.meter := by
    unfold State.countIgnored
    repeat' split
    all_goals exact ⟨rfl, rfl, rfl, rfl, rfl, rfl, rfl, rfl⟩
  unfold State.settleDue
  split_ifs
  · exact hcount _
  · exact ⟨rfl, rfl, rfl, rfl, rfl, rfl, rfl, rfl⟩

theorem State.settleDue_alloc_of_ne (s : State) (h : s.alloc.settle ≠ .inFlight ∨ s.sbi.inEpoch = false ∨ s.sbi.cutBy = true) :
    s.settleDue.alloc = s.alloc := by
  unfold State.settleDue
  refine congrArg State.alloc (if_neg ?_)
  simp only [Bool.and_eq_true, beq_iff_eq, Bool.not_eq_true', not_and]
  intro hin hsettle
  obtain h | h | h := h
  · exact h hsettle
  · rw [hin.1] at h; cases h
  · rw [hin.2] at h; cases h

theorem State.settleDue_settle (s : State) (hin : s.sbi.inEpoch = true) (hcut : s.sbi.cutBy = false)
    (h : s.alloc.settle = .inFlight) : s.settleDue.alloc.settle = .complete := by
  rw [State.settleDue, if_pos (by rw [hin, hcut, h]; rfl)]
  rfl

/-! ### The commands -/

theorem Meter.passTime_zero (m : Meter) : m.passTime 0 = m := by
  simp [Meter.passTime]

theorem State.BeforeMark.countCut_advanceTo (s : State) (time : Nat) :
    s.BeforeMark (time - s.sbi.timer) (s.advanceTo time).countCut := by
  refine ⟨rfl, rfl, rfl, rfl, rfl, rfl, rfl, rfl, rfl, ?_, ?_, ?_, rfl, rfl, fun _ _ => rfl⟩ <;>
  · simp only [State.countCut, State.modCounters, State.modMgmt, State.advanceTo, State.passTime_sbi, Sbi.passTime]
    split_ifs <;> rfl

theorem State.syncHigh_eq (s : State) : s.syncHigh = { s with
    sbi := { s.sbi with faults := { s.sbi.faults with syncHigh := true }, txBuffer := none, readback := .idle, phase := .stalled
                        syncDrive := .released }
    mgmt := { s.mgmt.raiseIf (!s.sbi.faults.any) .line with
      bus := if s.sbi.faults.syncHigh then s.mgmt.bus else s.mgmt.bus.record (.syncHigh s.sbi.seq) } } := by
  have hany : ({ s.sbi.faults with syncHigh := true } : LineFaults).any = true := by simp [LineFaults.any]
  rw [State.syncHigh, State.modFaults, State.setFaults_eq, hany, Bool.and_true]
  cases s.sbi.faults.syncHigh <;> cases s.sbi.faults.any <;> rfl

theorem State.BeforeMark.countCut_syncHigh (s : State) : s.BeforeMark 0 s.syncHigh.countCut := by
  have hmgmt : s.syncHigh.countCut.mgmt = { s.mgmt.raiseIf (!s.sbi.faults.any) .line with
      bus := if s.sbi.faults.syncHigh then s.mgmt.bus else s.mgmt.bus.record (.syncHigh s.sbi.seq)
      counters := { s.mgmt.counters with cutEpochs := countUp 1 s.mgmt.counters.cutEpochs } } := by
    rw [State.countCut, State.syncHigh_eq]
    cases s.sbi.faults.any <;> rfl
  refine ⟨?_, ?_, ?_, ?_, ?_, ?_, ?_, ?_, ?_, ?_, ?_, ?_, ?_, ?_, fun f hf => ?_⟩
  · rw [State.countCut, State.syncHigh_eq]; rfl
  · rw [State.countCut, State.syncHigh_eq]; rfl
  · rw [State.countCut, State.syncHigh_eq]; rfl
  · rw [State.countCut, State.syncHigh_eq]; rfl
  · rw [State.countCut, State.syncHigh_eq]; rfl
  · rw [State.countCut, State.syncHigh_eq]; rfl
  · rw [State.countCut, State.syncHigh_eq]; rfl
  · rw [State.countCut, State.syncHigh_eq]; rfl
  · rw [State.countCut, State.syncHigh_eq, Meter.passTime_zero]; rfl
  · rw [State.countCut, State.syncHigh_eq]; rfl
  · rw [State.countCut, State.syncHigh_eq]; rfl
  · rw [State.countCut, State.syncHigh_eq]; rfl
  · rw [hmgmt]
    cases s.sbi.faults.any <;> rfl
  · rw [hmgmt]
  · rw [hmgmt]
    exact s.mgmt.flag_raiseIf_ne _ _ hf

theorem State.BeforeMark.beforeTrueMark (s : State) (time : Nat) :
    s.BeforeMark (time - s.sbi.timer) (s.advanceTo time).beforeTrueMark := by
  obtain ⟨hcensus, hstore, hmonitors, hsent, hloader, hpending, hreset, hmeter⟩ := (s.advanceTo time).settleDue_keeps
  have hmgmt := (s.advanceTo time).settleDue_mgmt
  have hsbi := (s.advanceTo time).beforeTrueMark_sbi
  have htime : (s.advanceTo time).sbi.vetoed = s.sbi.vetoed ∧ (s.advanceTo time).sbi.running = s.sbi.running
      ∧ (s.advanceTo time).sbi.clashStreak = s.sbi.clashStreak := by
    simp only [State.advanceTo, State.passTime_sbi, Sbi.passTime]
    split_ifs <;> exact ⟨rfl, rfl, rfl⟩
  obtain ⟨hvetoed, hrunning, hclash⟩ := htime
  refine ⟨(s.advanceTo time).settleDue_ctl, hcensus, hstore, hmonitors, hsent, hloader, hpending, hreset, hmeter,
    by rw [hsbi, hvetoed], by rw [hsbi, hrunning], by rw [hsbi, hclash], ?_, ?_, fun f _ => ?_⟩
  all_goals
    simp only [State.beforeTrueMark, State.countMark, State.modCounters, State.modMgmt, Mgmt.flag]
    rw [hmgmt]
    rfl

end Sys2Proof.Machine

/-! PROOF. The marks that end no epoch, that end one uncut, and that cut one, each as one mark delivered. -/

namespace Sys2Proof.Machine

open Sys2Proof

section
variable {s : State} {c : Instr} {time : Nat} {first : Bool}

theorem exec_trueMark (ho : observes s.ctl.station = true) :
    exec (.trueMark time first) s = .next ((s.advanceTo time).takeTrueMark first) :=
  congrArg Host.Outcome.next (if_pos ho)

theorem exec_epochTimerExpiry (hd : drivesSync s.ctl.station = true) (sync : Level) :
    exec (.epochTimerExpiry sync first) s = .next ((s.advanceTo s.epochBitTimes).timerExpired sync first) :=
  congrArg Host.Outcome.next (if_pos hd)

theorem exec_syncHighFault (h : s.sbi.syncDrive = .attempting) :
    exec (.syncHighFault first) s = .next (s.syncHigh.localMark first) := congrArg Host.Outcome.next (if_pos h)

theorem State.Restarted_advanceTo (time : Nat) {r : Sbi} (h : (s.advanceTo time).sbi.Restarted r) : s.sbi.Restarted r := by
  have htime : (s.advanceTo time).sbi.running = s.sbi.running ∧ (s.advanceTo time).sbi.clashStreak = s.sbi.clashStreak := by
    simp only [State.advanceTo, State.passTime_sbi, Sbi.passTime]
    split_ifs <;> exact ⟨rfl, rfl⟩
  obtain ⟨hrun, hclash⟩ := htime
  exact ⟨h.timer, h.txBuffer, h.readback, h.vetoDrive, h.vetoAsked, h.vetoed, h.windowClosed, h.running.trans hrun,
    h.clash.trans hclash⟩

/-- What a mark comes to: a command that makes it, the state it is delivered to, and the SBI it leaves. -/
structure State.MarkOf (s : State) (c : Instr) (ends cut first : Bool) (b : State) (r : Sbi) : Prop where
  exec_eq : exec c s = .next { b.deliverMark ends cut first with sbi := r }
  before : s.BeforeMark (s.markTime c - s.sbi.timer) b
  restarted : s.sbi.Restarted r

theorem State.MarkOf.timerExpiry (hd : drivesSync s.ctl.station = true) (hlow : s.sbi.faults.syncLow = true) (sync : Level) :
    s.MarkOf (.epochTimerExpiry sync first) true true first (s.advanceTo s.epochBitTimes).countCut
      ((s.advanceTo s.epochBitTimes).localSbi first) := by
  have hlow' : (s.advanceTo s.epochBitTimes).sbi.faults.syncLow = true := by
    rw [State.advanceTo, State.passTime_sbi, Sbi.passTime_faults, hlow]
  refine ⟨?_, ?_, State.Restarted_advanceTo _ (State.localSbi_restarted _ _)⟩
  · rw [exec_epochTimerExpiry hd, State.timerExpired, if_pos hlow', State.localMark_eq]
  · have h := State.BeforeMark.countCut_advanceTo s s.epochBitTimes
    rwa [s.epochBitTimes_eq] at h ⊢

theorem State.MarkOf.syncHigh (h : s.sbi.syncDrive = .attempting) :
    s.MarkOf (.syncHighFault first) true true first s.syncHigh.countCut (s.syncHigh.localSbi first) := by
  refine ⟨by rw [exec_syncHighFault h, State.localMark_eq], ?_, ?_⟩
  · have h := State.BeforeMark.countCut_syncHigh s
    have htime : s.markTime (.syncHighFault first) = s.sbi.timer := rfl
    rwa [htime, Nat.sub_self]
  · have hr := s.syncHigh.localSbi_restarted first
    rw [State.syncHigh_eq] at hr ⊢
    exact ⟨hr.timer, hr.txBuffer, hr.readback, hr.vetoDrive, hr.vetoAsked, hr.vetoed, hr.windowClosed, hr.running, hr.clash⟩

theorem State.MarkOf.trueMark (h : s.markAt time) :
    s.MarkOf (.trueMark time first) (s.advanceTo time).sbi.inEpoch (s.advanceTo time).sbi.cutBy first
      (s.advanceTo time).beforeTrueMark ((s.advanceTo time).trueSbi first) :=
  ⟨by rw [exec_trueMark h.1, State.takeTrueMark_eq], State.BeforeMark.beforeTrueMark s time,
    State.Restarted_advanceTo _ (State.trueSbi_restarted _ _)⟩

/-- Every mark. -/
theorem State.MarkOf.of_markedBy (h : s.markedBy c first) : ∃ ends cut b r, s.MarkOf c ends cut first b r
    ∧ (ends = false → observes s.ctl.station = true ∧ s.sbi.phase = .unaligned) := by
  obtain ⟨hd, ⟨sync, rfl, hlow⟩ | ⟨rfl, hattempt⟩⟩ | ⟨time, rfl, hmark⟩ := h
  · exact ⟨_, _, _, _, .timerExpiry hd hlow sync, by simp⟩
  · exact ⟨_, _, _, _, .syncHigh hattempt, by simp⟩
  · refine ⟨_, _, _, _, .trueMark hmark, fun hin => ⟨hmark.1, ?_⟩⟩
    rw [State.inEpoch_of_markAt hmark, decide_eq_false_iff_not, not_not] at hin
    exact hin

/-- A mark that cuts the epoch. -/
theorem State.MarkOf.of_cutBy (h : s.cutBy c first) : ∃ b r, s.MarkOf c true true first b r ∧ b.alloc = s.alloc
    ∧ b.mgmt.counters.cutEpochs = countUp 1 s.mgmt.counters.cutEpochs := by
  obtain ⟨hd, ⟨sync, rfl, hlow⟩ | ⟨rfl, hattempt⟩⟩ | ⟨time, rfl, hmark, hphase⟩ := h
  · exact ⟨_, _, .timerExpiry hd hlow sync, rfl, rfl⟩
  · refine ⟨_, _, .syncHigh hattempt, ?_, ?_⟩ <;> rw [State.countCut, State.syncHigh_eq]
    · rfl
    · cases s.sbi.faults.any <;> rfl
  · have hin : (s.advanceTo time).sbi.inEpoch = true := by
      rw [State.inEpoch_of_markAt hmark, decide_eq_true_eq]
      obtain h | h | h := hphase
      · simp [h]
      · simp [h]
      · exact h.1
    have hcut : (s.advanceTo time).sbi.cutBy = true := by
      rw [State.cutBy_of_markAt hmark, decide_eq_true_eq]
      rw [State.inEpoch_of_markAt hmark, decide_eq_true_eq] at hin
      exact ⟨hin, hphase.imp_right (Or.imp_right And.right)⟩
    have hmarkOf := State.MarkOf.trueMark hmark (first := first)
    rw [hin, hcut] at hmarkOf
    refine ⟨_, _, hmarkOf, (s.advanceTo time).settleDue_alloc_of_ne (.inr (.inr hcut)), ?_⟩
    rw [State.beforeTrueMark, hcut, State.countMark, State.modCounters, State.modMgmt, State.settleDue_mgmt]
    rfl

/-- A mark that ends an epoch uncut. -/
theorem State.MarkOf.of_uncutAt (h : s.uncutAt time) : ∃ b r, s.MarkOf (.trueMark time first) true false first b r
    ∧ (s.alloc.settle ≠ .inFlight → b.alloc = s.alloc) ∧ (s.alloc.settle = .inFlight → b.alloc.settle = .complete) := by
  obtain ⟨hmark, hlate, hunaligned, hstalled, hsuspended⟩ := h
  have hin : (s.advanceTo time).sbi.inEpoch = true := by
    rw [State.inEpoch_of_markAt hmark, decide_eq_true_eq]
    exact hunaligned
  have hcut : (s.advanceTo time).sbi.cutBy = false := by
    rw [State.cutBy_of_markAt hmark, decide_eq_false_iff_not]
    rintro ⟨-, h | h | h⟩
    · exact hstalled h
    · exact hsuspended h
    · omega
  have hmarkOf := State.MarkOf.trueMark hmark (first := first)
  rw [hin, hcut] at hmarkOf
  exact ⟨_, _, hmarkOf, fun hne => (s.advanceTo time).settleDue_alloc_of_ne (.inl hne),
    fun hsettle => (s.advanceTo time).settleDue_settle hin hcut hsettle⟩

/-- A mark that ends no epoch. -/
theorem State.MarkOf.of_unaligned (h : s.markAt time) (hphase : s.sbi.phase = .unaligned) : ∃ b r,
    s.MarkOf (.trueMark time first) false false first b r ∧ b.alloc = s.alloc := by
  have hin : (s.advanceTo time).sbi.inEpoch = false := by
    rw [State.inEpoch_of_markAt h, decide_eq_false_iff_not, not_not]
    exact hphase
  have hcut : (s.advanceTo time).sbi.cutBy = false := by
    rw [State.cutBy_of_markAt h, decide_eq_false_iff_not]
    exact fun hnot => hnot.1 hphase
  have hmarkOf := State.MarkOf.trueMark h (first := first)
  rw [hin, hcut] at hmarkOf
  exact ⟨_, _, hmarkOf, (s.advanceTo time).settleDue_alloc_of_ne (.inr (.inl hin))⟩

/-- A mark that ends an epoch is either. -/
theorem State.MarkOf.of_endedBy (h : s.endedBy c first) : ∃ cut b r, s.MarkOf c true cut first b r := by
  obtain h | ⟨time, rfl, h⟩ := h
  · obtain ⟨b, r, hmark, -⟩ := State.MarkOf.of_cutBy h
    exact ⟨_, b, r, hmark⟩
  · obtain ⟨b, r, hmark, -⟩ := State.MarkOf.of_uncutAt h (first := first)
    exact ⟨_, b, r, hmark⟩

end

end Sys2Proof.Machine

/-! PROOF. The registers of the Station Controller after a mark, by the state it comes in; what the store, the monitors and
the credit become. -/

namespace Sys2Proof.Machine

open Sys2Proof

/-! ### The registers after a mark -/

section
variable {s : State} {ends cut first : Bool}

theorem State.drainsByAgeing_iff : s.drainsByAgeing = true ↔ s.ctl.station = .leaving ∧ s.store.held ≠ []
    ∧ ∀ d ∈ s.store.held, d.age = s.settings.ageLimit := by
  rw [State.drainsByAgeing, State.agedStore_eq]
  simp only [Bool.and_eq_true, beq_iff_eq, Bool.not_eq_true', List.isEmpty_eq_false_iff, List.isEmpty_iff, Store.held_ageing,
    List.map_eq_nil_iff, List.filter_eq_nil_iff, bne_iff_ne, not_not, Store.aged, ne_eq]
  constructor
  · rintro ⟨⟨hl, hsome⟩, hall⟩
    exact ⟨hl, fun h => hsome (by simp [h]), hall⟩
  · rintro ⟨hl, hne, hall⟩
    refine ⟨⟨hl, fun hnone => ?_⟩, hall⟩
    obtain ⟨d, hd⟩ := List.exists_mem_of_ne_nil _ hne
    exact hnone d hd (hall d hd)

/-- Where no drain is ended by the ageing the registers are the control's. -/
theorem State.ctlAfter_of_not_drains (h : s.drainsByAgeing = false) : s.ctlAfter ends cut first = s.turnAt ends cut := by
  rw [State.ctlAfter, State.markedCtl, s.endedIf_drains, h]
  rfl

theorem State.drains_eq_false (h : s.ctl.station ≠ .leaving) : s.drainsByAgeing = false :=
  Bool.eq_false_iff.mpr fun hd => h (State.drainsByAgeing_iff.mp hd).1

/-- Where the ageing, taken first, ends a drain there is nothing left for the control (R106). -/
theorem State.ctlAfter_of_drains_first (h : s.drainsByAgeing = true) (hfirst : (first || !ends) = true) :
    s.ctlAfter ends cut first = (s.endedIf ends cut).ctl.out .quiet := by
  rw [State.ctlAfter, State.markedCtl, s.endedIf_drains, if_pos h, if_pos hfirst]

theorem State.ctlAfter_of_drains_last (h : s.drainsByAgeing = true) (hfirst : (first || !ends) = false) :
    s.ctlAfter ends cut first = if (s.turnAt ends cut).station = .leaving then (s.turnAt ends cut).out .quiet
      else s.turnAt ends cut := by
  rw [State.ctlAfter, State.markedCtl, s.endedIf_drains, if_pos h, if_neg (by rw [hfirst]; decide)]

/-- The registers that the control finds at the end of an epoch. -/
theorem State.endEpoch_ctl : (s.endEpoch cut).ctl = s.ctl.completed cut := by rw [State.endEpoch_eq]

theorem State.turnAt_listening (h : s.ctl.station = .listening) : s.turnAt true cut =
    if satInc 15 s.ctl.listenCount = s.plan.listenEpochs then
      if planCheck s.planSplit then
        { s.ctl.completed cut with listenCount := satInc 15 s.ctl.listenCount, station := .joining, streak := 0 }
      else { (s.ctl.completed cut).out .excluded with listenCount := satInc 15 s.ctl.listenCount, cause := .plan }
    else { s.ctl.completed cut with listenCount := satInc 15 s.ctl.listenCount } := by
  have hst : (s.endEpoch cut).ctl.station = .listening := by rw [State.endEpoch_ctl, Control.completed_station, h]
  have hcount : (s.ctl.completed cut).listenCount = s.ctl.listenCount := by rw [Control.completed_eq]
  rw [State.turnAt, if_pos rfl, State.controlMark_listening _ _ _ hst, State.listenEpoch_ctl, State.endEpoch_ctl, hcount,
    State.endEpoch_eq]

/-- Whether the control fences the station at a mark: its number evicted by the record that is promoted, at the end of a
clear epoch (R102). -/
def State.fencedAt (s : State) (cut : Bool) : Bool :=
  !cut && !s.decidedVoid && holds (s.promoted cut).standing.admin.evicted s.own

theorem State.endEpoch_ownEvicted : (s.endEpoch cut).ownEvicted = holds (s.promoted cut).standing.admin.evicted s.own := by
  rw [State.endEpoch_eq]
  rfl

theorem State.turnAt_leaving (h : s.ctl.station = .leaving) : s.turnAt true cut =
    if s.fencedAt cut then (s.ctl.completed cut).out .fenced
    else if satInc 255 s.ctl.drainEpochs = s.settings.drainLimit then
      { (s.ctl.completed cut).out .quiet with drainEpochs := satInc 255 s.ctl.drainEpochs }
    else { s.ctl.completed cut with drainEpochs := satInc 255 s.ctl.drainEpochs } := by
  have hst : (s.endEpoch cut).ctl.station = .leaving := by rw [State.endEpoch_ctl, Control.completed_station, h]
  have hcount : (s.ctl.completed cut).drainEpochs = s.ctl.drainEpochs := by rw [Control.completed_eq]
  have hlimit : (s.endEpoch cut).settings.drainLimit = s.settings.drainLimit := by rw [State.endEpoch_eq]
  rw [State.turnAt, if_pos rfl, State.controlMark_leaving _ _ _ hst, State.endEpoch_ownEvicted]
  change State.ctl (if s.fencedAt cut then (s.endEpoch cut).enterFenced else (s.endEpoch cut).drainEpoch) = _
  split_ifs <;> simp_all [State.endEpoch_ctl, State.drainEpoch_ctl]

theorem State.turnAt_serving (h : s.ctl.station = .joining ∨ s.ctl.station = .active ∨ s.ctl.station = .resync) :
    s.turnAt true cut = if s.fencedAt cut then (s.ctl.completed cut).out .fenced
      else if cut || s.decidedVoid then s.ctl.completed cut else (s.ctl.completed cut).confirmed s.census.result := by
  have hst : (s.endEpoch cut).ctl.station = s.ctl.station := by rw [State.endEpoch_ctl, Control.completed_station]
  have hresult : (s.endEpoch cut).census = s.census := by rw [State.endEpoch_eq]
  rw [State.turnAt, if_pos rfl, State.controlMark_serving _ _ _ (by rwa [hst]), State.endEpoch_ownEvicted]
  change State.ctl (if s.fencedAt cut then (s.endEpoch cut).enterFenced
    else if cut || s.decidedVoid then s.endEpoch cut else (s.endEpoch cut).applyResult) = _
  split_ifs
  · rw [State.enterFenced_ctl, State.endEpoch_ctl]
  · rw [State.endEpoch_ctl]
  · rw [State.applyResult_ctl, State.endEpoch_ctl, hresult]

theorem State.turnAt_fenced (h : s.ctl.station = .fenced) : s.turnAt true cut =
    if !cut && !s.decidedVoid && !holds (s.promoted cut).standing.admin.evicted s.own then
      { s.ctl.completed cut with station := .joining, streak := 0 }
    else s.ctl.completed cut := by
  have hst : (s.endEpoch cut).ctl.station = .fenced := by rw [State.endEpoch_ctl, Control.completed_station, h]
  rw [State.turnAt, if_pos rfl, State.controlMark_fenced _ _ _ hst, State.endEpoch_ownEvicted]
  split_ifs
  · rw [State.enterJoining_ctl, State.endEpoch_ctl]
  · rw [State.endEpoch_ctl]

theorem State.turnAt_idle (h : s.ctl.station = .booting ∨ s.ctl.station = .failsafe ∨ s.ctl.station = .quiet
    ∨ s.ctl.station = .excluded) : s.turnAt true cut = s.ctl.completed cut := by
  have hst : (s.endEpoch cut).ctl.station = s.ctl.station := by rw [State.endEpoch_ctl, Control.completed_station]
  rw [State.turnAt, if_pos rfl, State.controlMark_idle _ _ _ (by rwa [hst]), State.endEpoch_ctl]

end

end Sys2Proof.Machine

/-! PROOF. What every mark does to the descriptors, the monitors and the credit (R106, R109, R128, R129, R140, R145, R146,
R149). -/

namespace Sys2Proof.Machine

open Sys2Proof

section
variable {s b : State} {c : Instr} {ends cut first : Bool} {r : Sbi}

/-- The state that a mark leaves. -/
abbrev State.after (b : State) (ends cut first : Bool) (r : Sbi) : State := { b.deliverMark ends cut first with sbi := r }

theorem State.BeforeMark.drains {elapsed : Nat} (h : s.BeforeMark elapsed b) : b.drainsByAgeing = s.drainsByAgeing := by
  rw [Bool.eq_iff_iff, State.drainsByAgeing_iff, State.drainsByAgeing_iff, h.ctl, h.store, State.settings, h.loader]

theorem State.outAt_after_iff (hctl : b.ctl = s.ctl) :
    s.outAt (b.after ends cut first r) ↔ b.outAfter ends cut first = true := by
  rw [State.outAfter_iff, State.outAt, State.after, State.deliverMark_ctl, hctl]

/-- In Leaving the control fences the station, ends the drain at its limit of epochs, or keeps it (R102, R105). -/
theorem State.turnAt_leaving_cases (h : b.ctl.station = .leaving) : (b.turnAt true cut).station = .fenced
    ∨ ((b.turnAt true cut).station = .quiet ∧ satInc 255 b.ctl.drainEpochs = b.settings.drainLimit)
    ∨ ((b.turnAt true cut).station = .leaving ∧ satInc 255 b.ctl.drainEpochs ≠ b.settings.drainLimit) := by
  rw [State.turnAt_leaving h]
  split_ifs with hf hl
  · exact .inl rfl
  · exact .inr (.inl ⟨rfl, hl⟩)
  · exact .inr (.inr ⟨(Control.completed_station cut b.ctl).trans h, hl⟩)

/-- What an entry of a mark flushes, it flushes before the ageing exactly when the ageing is taken last and the drain does not
end by it (R106, R146). -/
theorem State.flushedFirst_of_out (hends : ends = false → b.ctl.station ≠ .leaving)
    (hout : b.outAfter ends cut first = true) :
    b.flushedFirst ends cut first = true ↔ ¬ (first = true ∨ (b.ctl.station = .leaving
      ∧ (b.ctlAfter ends cut first).station = .quiet ∧ satInc 255 b.ctl.drainEpochs ≠ b.settings.drainLimit)) := by
  cases first with
  | true => simp [State.flushedFirst]
  | false =>
    cases ends with
    | false =>
      have hsame : b.ctlAfter false cut false = b.ctl := State.ctlAfter_of_not_drains (State.drains_eq_false (hends rfl))
      rw [State.outAfter_iff, hsame] at hout
      exact absurd rfl hout.1
    | true =>
      simp only [State.flushedFirst, Bool.false_eq_true, false_or, Bool.not_true, Bool.or_self, Bool.not_false, Bool.true_and]
      cases hd : b.drainsByAgeing with
      | false =>
        rw [State.outAfter, State.ctlAfter_of_not_drains hd] at hout
        rw [hout, State.ctlAfter_of_not_drains hd]
        refine iff_of_true rfl ?_
        rintro ⟨hl, hq, hlimit⟩
        obtain h | ⟨-, h⟩ | ⟨h, -⟩ := State.turnAt_leaving_cases hl (cut := cut)
        · rw [h] at hq; cases hq
        · exact hlimit h
        · rw [h] at hq; cases hq
      | true =>
        obtain ⟨hl, -⟩ := State.drainsByAgeing_iff.mp hd
        rw [State.ctlAfter_of_drains_last hd rfl]
        obtain h | ⟨h, hlimit⟩ | ⟨h, hlimit⟩ := State.turnAt_leaving_cases hl (cut := cut)
        · simp [h, hl, isOut]
        · simp [h, hl, isOut, hlimit]
        · simp [h, hl, isOut, hlimit, Control.out]

/-- A monitor after a mark, by what its mask's end and the count of marks make of it (R128, R129). -/
theorem Monitor.mark_eq (m : Monitor) : m.mark = if 3 ≤ m.marks then
    { m with marks := 4, state := .stale, highCount := 0, lowCount := 0 } else { m with marks := m.marks + 1 } := by
  unfold Monitor.mark
  by_cases h : 3 ≤ m.marks
  · rw [if_pos (by simp only [satInc]; omega), if_pos h]
  · rw [if_neg (by simp only [satInc]; omega), if_neg h, show satInc 4 m.marks = m.marks + 1 by simp only [satInc]; omega]

/-- The same with its mask ended first. -/
theorem Monitor.mark_endMask (m : Monitor) (d : Nat) : (m.endMask d).mark = if 3 ≤ m.marks then
      { m with marks := 4, state := .stale, highCount := 0, lowCount := 0 }
    else if m.state = .masked ∧ m.highCount = d then
      { m with state := .pressed, highCount := 0, lowCount := 0, marks := m.marks + 1 }
    else if m.state = .masked then { m with state := .clear, marks := m.marks + 1 }
    else { m with marks := m.marks + 1 } := by
  rw [Monitor.mark_eq]
  unfold Monitor.endMask
  split_ifs <;> simp_all

end

/-- Settles O20: what a mark delivered leaves of the store, the messages and the monitors. -/
theorem markAgesDescriptorsAndMonitors : Obligations.MarkAgesDescriptorsAndMonitors := by
  intro c first s hphase hmarked
  obtain ⟨ends, cut, b, r, hmark, hends⟩ := State.MarkOf.of_markedBy hmarked
  obtain ⟨hctl, hcensus, hstore, hmonitors, hsent, hloader, -, -, -, -, -, -, -, hcounters, hflags⟩ := hmark.before
  refine ⟨_, hmark.exec_eq, ?_⟩
  intro limit expired aged left out reason byAgeing gone
  have hlimit : b.settings.ageLimit = limit := by rw [State.settings, hloader]
  have hst : (b.deliverMark ends cut first).ctl.station = (b.ctlAfter ends cut first).station := by rw [State.deliverMark_ctl]
  have hout : out ↔ b.outAfter ends cut first = true := State.outAt_after_iff hctl
  have hreason : reason = exitReason (b.ctlAfter ends cut first).station := by
    simp only [reason, hst]
    rfl
  have hgone : gone.length = b.expiriesAt ends cut first := by
    simp only [gone, State.expiriesAt, hstore, hlimit, hout, apply_ite List.length]
    rfl
  have hnotleaving (he : ends = false) : b.ctl.station ≠ .leaving := by
    obtain ⟨ho, hp⟩ := hends he
    rw [hctl, hphase.2 ho hp]
    decide
  refine ⟨fun hin q => ?_, fun hin q => ?_, ?_, ?_, fun q => ?_, ?_, ?_, ?_, fun i => ?_, ?_⟩
  · change (b.deliverMark ends cut first).store.queues[q] = _
    rw [State.deliverMark_store, if_neg (mt hout.mpr hin), hlimit, hstore]
    simp [Store.shift, Store.ageing]
  · change (b.deliverMark ends cut first).store.queues[q] = _
    rw [State.deliverMark_store, if_pos (hout.mp hin)]
    simp [Store.shift, Store.empty]
  · change (b.deliverMark ends cut first).sent = _
    rw [State.deliverMark_sent, hlimit, hstore, hsent, ← hreason]
    by_cases hin : out
    · have hflush := State.flushedFirst_of_out hnotleaving (hout.mp hin)
      have hby : (b.ctl.station = .leaving ∧ (b.ctlAfter ends cut first).station = .quiet
          ∧ satInc 255 b.ctl.drainEpochs ≠ b.settings.drainLimit) ↔ byAgeing := by
        simp only [byAgeing, hst, hctl, State.settings, hloader]
        rfl
      rw [hby] at hflush
      rw [if_pos (hout.mp hin), if_neg (not_not.mpr hin)]
      by_cases ho : first = true ∨ byAgeing
      · rw [if_pos ho, if_neg (mt hflush.mp (not_not.mpr ho))]
        rfl
      · rw [if_neg ho, if_pos (hflush.mpr ho)]
    · rw [if_neg (mt hout.mpr hin), if_pos hin]
      rfl
  · change (b.deliverMark ends cut first).store.previous = _
    rw [State.deliverMark_store, hstore]
    split_ifs <;> rfl
  · change (b.deliverMark ends cut first).store.arrivals[q] = 0
    rw [State.deliverMark_store]
    split_ifs <;> simp [Store.shift]
  · change (b.deliverMark ends cut first).store.history = _
    rw [State.deliverMark_store, hstore]
    split_ifs <;> rfl
  · change (b.deliverMark ends cut first).mgmt.counters.expiries = _
    rw [State.deliverMark_mgmt, hgone, hcounters]
    rfl
  · change (b.deliverMark ends cut first).mgmt.flag .expired = _
    have hempty : (b.expiriesAt ends cut first != 0) = !gone.isEmpty := by
      rw [← hgone]
      cases gone <;> rfl
    rw [State.deliverMark_flag, hflags _ (by decide), hempty]
    simp
  · change (b.deliverMark ends cut first).monitors[i] = _
    have huse : inUse b i = true ↔ i.val < s.plan.targets := by rw [inUse, hloader, decide_eq_true_eq]
    have hthreshold : b.settings.monitors[i].debounce = s.settings.monitors[i].debounce := by rw [State.settings, hloader]
    rw [State.deliverMark_monitors, hmonitors, hthreshold, hctl, ← hst]
    by_cases hu : i.val < s.plan.targets
    · rw [if_pos (huse.mpr hu), if_pos hu]
      by_cases ha : (b.deliverMark ends cut first).ctl.station ≠ s.ctl.station
          ∧ (b.deliverMark ends cut first).ctl.station = .active
      · have hne : s.ctl.station ≠ .active := fun h => ha.1 (by rw [ha.2, h])
        rw [if_pos ha, Monitor.mark_endMask]
        simp only [hne, ha.2, ne_eq, not_false_eq_true, true_and]
      · have hends (m : Prop) : ¬ (s.ctl.station ≠ .active ∧ (b.deliverMark ends cut first).ctl.station = .active ∧ m) :=
          fun h => ha ⟨fun h' => h.1 (by rw [← h', h.2.1]), h.2.1⟩
        rw [if_neg ha, Monitor.mark_eq]
        simp only [hends, false_and, if_false]
    · rw [if_neg (mt huse.mp hu), if_neg hu]
  · change (b.deliverMark ends cut first).mgmt.flag .stale = _
    have hstale : b.goesStale = allTargets.any fun i =>
        decide (i.val < s.plan.targets) && decide (3 ≤ s.monitors[i].marks) && s.monitors[i].state != .stale := by
      simp only [State.goesStale, Monitor.goesStale_eq, hmonitors, inUse, hloader, Bool.and_assoc]
    rw [State.deliverMark_flag, hflags _ (by decide), hstale]
    simp

/-! ### The credit -/

section
variable (b : State) (ends cut first : Bool)

/-- The grant a counter is reloaded from, by the state (R152). -/
theorem State.reloadGrant_eq (s : State) (q : Fin 12) : s.reloadGrant q =
    if s.ctl.station = .active ∨ s.ctl.station = .resync ∨ s.ctl.station = .leaving
        ∨ (s.ctl.station = .joining ∧ holds s.alloc.standing.guests s.own = true) then
      stationGrant s.plan s.alloc.standing s.own (queueTarget q) (queueClass q) else 0 := by
  unfold State.reloadGrant
  cases s.ctl.station <;> simp

/-- The reload of a counter (R149). -/
theorem reloaded_eq (percent grant bank : Nat) (leftover : Int) : reloaded percent grant bank leftover =
    if percent = 0 then min leftover 0
    else if 0 ≤ leftover then min (grant + min leftover bank) 65535 else min (grant + leftover) 65535 := by
  unfold reloaded
  split_ifs <;> omega

theorem State.beforeWork_credits (q : Fin 12) : (b.beforeWork ends cut first).meter.credits[q] =
    if (b.ctlAfter ends cut first).station ≠ b.ctl.station ∧ dropsCredit (b.ctlAfter ends cut first).station = true then
      min b.meter.credits[q] 0
    else b.meter.credits[q] := by
  obtain ⟨-, -, -, -, -, -, -, hmeter, -⟩ := b.endedIf_keeps ends cut
  rw [State.beforeWork, State.marked_meter, b.endedIf_station, hmeter]
  change (if (b.ctlAfter ends cut first).station = b.ctl.station then b.meter
    else b.meter.enter (b.ctlAfter ends cut first).station).credits[q] = _
  by_cases hst : (b.ctlAfter ends cut first).station = b.ctl.station
  · simp [hst]
  · rw [if_neg hst]
    cases hk : (b.ctlAfter ends cut first).station <;> simp_all [Meter.enter, releases, dropsCredit]

/-- A counter after a mark, from its leftover and the grant of the state after the mark (R149, R152). -/
theorem State.deliverMark_credits (q : Fin 12) : (b.deliverMark ends cut first).meter.credits[q] =
    reloaded (b.deliverMark ends cut first).admin.percents[queueTarget q] ((b.deliverMark ends cut first).reloadGrant q)
      b.settings.banks[queueClass q] ((b.beforeWork ends cut first).meter.credits[q]) := by
  have hloader : (b.beforeWork ends cut first).loader = b.loader :=
    (State.marked_keeps _ _ _).2.2.1.trans (b.endedIf_keeps ends cut).2.2.1
  have hbanks : (b.beforeWork ends cut first).settings.banks = b.settings.banks := by rw [State.settings, hloader]
  rw [State.deliverMark_eq, State.beginEpoch_eq]
  simp only [State.reloadedCredits, Fin.getElem_fin, Vector.getElem_ofFn, Fin.eta, hbanks]
  rfl

end

/-- What an entry makes of the pacer (R153, R154). -/
theorem Meter.pacer_of_entry (m : Meter) (old new : StationState) (d : Nat) :
    let left := if new = old then m.passTime d else (m.passTime d).enter new
    left.position = (if new ≠ old ∧ releases new = true then 0 else m.position)
      ∧ left.running = (if new ≠ old then releases new else m.running)
      ∧ left.sinceStep = (if new ≠ old ∧ releases new = true then 0 else m.sinceStep + if m.running then d else 0) := by
  intro left
  have hpassed : (m.passTime d).position = m.position ∧ (m.passTime d).running = m.running
      ∧ (m.passTime d).sinceStep = m.sinceStep + if m.running then d else 0 := by
    unfold Meter.passTime
    split_ifs <;> exact ⟨rfl, rfl, rfl⟩
  by_cases hentry : new = old
  · simpa [left, hentry] using hpassed
  · cases hreleases : releases new <;> simp [left, hentry, hreleases, Meter.enter, hpassed]

/-- Settles O19: the reload of the own grant, and what an entry of the mark makes of the pacer and the credit. -/
theorem markReloadsTheCredit : Obligations.MarkReloadsTheCredit := by
  refine ⟨fun c first s hmarked => ?_, fun st => by cases st <;> simp [dropsCredit], fun st => by cases st <;> simp [releases],
    fun plan r k t c => rfl⟩
  obtain ⟨ends, cut, b, r, hmark, -⟩ := State.MarkOf.of_markedBy hmarked
  obtain ⟨hctl, -, -, -, -, hloader, -, -, hmeter, -, -, -, -, -, -⟩ := hmark.before
  have hst : (b.deliverMark ends cut first).ctl.station = (b.ctlAfter ends cut first).station := by rw [State.deliverMark_ctl]
  have hleft := b.deliverMark_meter ends cut first
  rw [hctl, ← hst, hmeter] at hleft
  obtain ⟨hposition, hrunning, hsince⟩ := s.meter.pacer_of_entry s.ctl.station
    (b.deliverMark ends cut first).ctl.station (s.markTime c - s.sbi.timer)
  refine ⟨_, hmark.exec_eq, ?_, ?_, ?_, ?_, fun q => ?_⟩
  · change (b.deliverMark ends cut first).meter.halt = false
    rw [hleft]
  · change (b.deliverMark ends cut first).meter.position = _
    rw [hleft]
    exact hposition
  · change (b.deliverMark ends cut first).meter.running = _
    rw [hleft]
    exact hrunning
  · change (b.deliverMark ends cut first).meter.sinceStep = _
    rw [hleft]
    exact hsince
  · have hcredits : b.meter.credits = s.meter.credits := by
      rw [hmeter, Meter.passTime]
      split_ifs <;> rfl
    change (b.deliverMark ends cut first).meter.credits[q] = _
    rw [State.deliverMark_credits, reloaded_eq, State.reloadGrant_eq, State.beforeWork_credits, hctl, ← hst, State.settings,
      hloader, hcredits]

end Sys2Proof.Machine

/-! PROOF. The end of the listening, by the plan check over the stations heard (R91, R92, R97, R108). -/

namespace Sys2Proof.Machine

open Sys2Proof

/-! ### Lists made of the stations heard -/

theorem allStations_pairwise : allStations.Pairwise fun j k => j.toNat < k.toNat := by decide

theorem mem_allStations (k : StationNo) : k ∈ allStations := by
  revert k
  decide

section
variable {s b : State} {k : StationNo}

theorem State.heardNotice_eq_some_iff {n : Notice} :
    s.heardNotice k = some n ↔ holds s.census.heard k = true ∧ (s.census.entry k).contents = some n := by
  unfold State.heardNotice
  split_ifs with h <;> simp [h]

/-- A list of the stations heard, each with what its notice comes to, goes by ascending number. -/
theorem pairwise_of_stations {α : Type} (f : StationNo → Option (StationNo × α)) (hf : ∀ k p, f k = some p → p.1 = k) :
    (allStations.filterMap f).Pairwise fun p q => p.1.toNat < q.1.toNat := by
  refine allStations_pairwise.filterMap f fun j k hjk p hp q hq => ?_
  rwa [hf j p hp, hf k q hq]

theorem State.planSplit_pairwise : s.planSplit.Pairwise fun p q => p.1.toNat < q.1.toNat := by
  refine pairwise_of_stations _ fun k p hp => ?_
  split at hp
  · split_ifs at hp
    cases hp
    rfl
  · cases hp

theorem State.mem_planSplit {side : Bool} : (k, side) ∈ s.planSplit ↔
    holds s.census.heard k = true ∧ ∃ n, (s.census.entry k).contents = some n ∧ n.status = .active
      ∧ side = (n.planDigest == s.loader.planDigest) := by
  unfold State.planSplit
  simp only [List.mem_filterMap, mem_allStations, true_and]
  constructor
  · rintro ⟨j, hj⟩
    split at hj
    case h_1 n hn =>
      split_ifs at hj with hactive
      cases hj
      obtain ⟨hheard, hcontents⟩ := State.heardNotice_eq_some_iff.mp hn
      exact ⟨hheard, n, hcontents, hactive, rfl⟩
    case h_2 => cases hj
  · rintro ⟨hheard, n, hcontents, hactive, rfl⟩
    exact ⟨k, by simp [State.heardNotice_eq_some_iff.mpr ⟨hheard, hcontents⟩, hactive]⟩

/-! ### The mark that ends a listening epoch -/

theorem State.BeforeMark.planSplit {elapsed : Nat} (h : s.BeforeMark elapsed b) : b.planSplit = s.planSplit := by
  simp only [State.planSplit, State.heardNotice, h.census, h.loader]

variable {ends cut first : Bool} {r : Sbi}

/-- Nothing is held after a mark that takes the station out. -/
theorem State.deliverMark_held_of_out (h : b.outAfter ends cut first = true) :
    (b.deliverMark ends cut first).store.held = [] := by
  rw [State.deliverMark_store, if_pos h]
  exact b.store.held_empty

theorem State.ctlAfter_of_listening (h : b.ctl.station = .listening) : b.ctlAfter true cut first =
    if satInc 15 b.ctl.listenCount = b.plan.listenEpochs then
      if planCheck b.planSplit then
        { b.ctl.completed cut with listenCount := satInc 15 b.ctl.listenCount, station := .joining, streak := 0 }
      else { (b.ctl.completed cut).out .excluded with listenCount := satInc 15 b.ctl.listenCount, cause := .plan }
    else { b.ctl.completed cut with listenCount := satInc 15 b.ctl.listenCount } := by
  rw [State.ctlAfter_of_not_drains (State.drains_eq_false (by rw [h]; decide)), State.turnAt_listening h]

theorem Control.completed_cause (c : Control) : (c.completed cut).cause = c.cause := by rw [Control.completed_eq]

end

/-- Settles O18: the count, the plan check by the sides of the stations heard, and what either result makes of the station. -/
theorem listeningEndsByThePlanCheck : Obligations.ListeningEndsByThePlanCheck := by
  refine ⟨fun c first s hended hlistening => ?_, fun split => ?_, fun s => State.planSplit_pairwise,
    fun s k side => State.mem_planSplit⟩
  · obtain ⟨cut, b, r, hmark⟩ := State.MarkOf.of_endedBy hended
    obtain ⟨hctl, -, -, -, -, hloader, -⟩ := hmark.before
    have hplan : b.plan = s.plan := by rw [State.plan, hloader]
    have hsplit := hmark.before.planSplit
    have hafter := State.ctlAfter_of_listening (by rw [hctl, hlistening]) (b := b) (cut := cut) (first := first)
    have hsat : satInc 15 s.ctl.listenCount = min (s.ctl.listenCount + 1) 15 := rfl
    rw [hctl, hplan, hsplit, hsat] at hafter
    refine ⟨_, hmark.exec_eq, ?_, fun hcount => ?_, fun hcount hpass => ?_, fun hcount hfail => ?_⟩
    · change (b.deliverMark true cut first).ctl.listenCount = _
      rw [State.deliverMark_ctl, hafter]
      split_ifs <;> rfl
    · change (b.deliverMark true cut first).ctl.station = _ ∧ (b.deliverMark true cut first).ctl.cause = _
      rw [State.deliverMark_ctl, hafter, if_neg hcount]
      exact ⟨(Control.completed_station cut s.ctl).trans hlistening, Control.completed_cause s.ctl⟩
    · change (b.deliverMark true cut first).ctl.station = _ ∧ (b.deliverMark true cut first).ctl.streak = _
        ∧ (b.deliverMark true cut first).ctl.cause = _
      rw [State.deliverMark_ctl, hafter, if_pos hcount, if_pos hpass]
      exact ⟨rfl, rfl, Control.completed_cause s.ctl⟩
    · rw [if_pos hcount, hfail, if_neg (by decide)] at hafter
      have hst : (b.ctlAfter true cut first).station = .excluded := by rw [hafter]; rfl
      have hout : b.outAfter true cut first = true := by
        rw [State.outAfter_iff, hst, hctl, hlistening]
        decide
      refine ⟨?_, ?_, ?_, State.deliverMark_held_of_out hout⟩
      · change (b.deliverMark true cut first).ctl.station = _
        rw [State.deliverMark_ctl, hst]
      · change (b.deliverMark true cut first).ctl.cause = _
        rw [State.deliverMark_ctl, hafter]
      · change (b.deliverMark true cut first).mgmt.flag .excluded = true
        rw [State.deliverMark_flag, hout, hst]
        simp
  · intro equal unequal
    have hcheck : planCheck split = if equal < unequal then false else if unequal < equal then true else
        split.head?.elim true Prod.snd := by
      cases split <;> rfl
    rw [hcheck]
    refine ⟨fun h => if_pos h, fun h => ?_, fun h => ?_, fun p rest h heq => ?_⟩
    · rw [if_neg (by omega), if_pos h]
    · subst h
      rfl
    · rw [if_neg (by omega), if_neg (by omega), h]
      rfl

end Sys2Proof.Machine

/-! PROOF. What the end of an epoch makes of the records and the Directive Queue (R73, R76, R77, R110, R117). -/

namespace Sys2Proof.Machine

open Sys2Proof

/-! ### The registers that no mark turns -/

/-- Registers that a mark comes to from `c`: the drain's counts and the numbers of directives are kept, the queue is emptied
by an entry that takes the station out and by nothing else, and no directive begins to await (R105, R110). -/
structure Control.Follows (c k : Control) : Prop where
  lastReset : k.lastReset = c.lastReset
  nextSeq : k.nextSeq = c.nextSeq
  drainCount : k.drainCount = c.drainCount
  drainProgress : k.drainProgress = c.drainProgress
  queue : k.queue = if k.station ≠ c.station ∧ isOut k.station = true then [] else c.queue
  awaiting : c.awaiting = false → k.awaiting = false

theorem Control.Follows.refl (c : Control) : c.Follows c := ⟨rfl, rfl, rfl, rfl, by simp, id⟩

/-- An entry that takes the station out, whatever else it writes of the registers that turn. -/
theorem Control.Follows.out {c : Control} {st : StationState} (hne : st ≠ c.station) (hout : isOut st = true) (cause : Cause)
    (streak listenCount drainEpochs : Nat) : c.Follows
      { c.out st with cause := cause, streak := streak, listenCount := listenCount, drainEpochs := drainEpochs } :=
  ⟨rfl, rfl, rfl, rfl, (if_pos ⟨hne, hout⟩).symm, fun _ => rfl⟩

/-- A change that takes the station nowhere out. -/
theorem Control.Follows.stays {c : Control} {st : StationState} (h : isOut st = true → st = c.station)
    (streak listenCount drainEpochs : Nat) : c.Follows
      { c with station := st, streak := streak, listenCount := listenCount, drainEpochs := drainEpochs } :=
  ⟨rfl, rfl, rfl, rfl, (if_neg fun hout => hout.1 (h hout.2)).symm, id⟩

theorem Control.Follows.confirmed (c : Control) (result : Option TallyResult) : c.Follows (c.confirmed result) := by
  unfold Control.confirmed
  split
  · exact .stays (by simp [isOut]) _ _ _
  · split_ifs
    · exact .stays (by simp [isOut]) _ _ _
    · exact .stays (fun _ => rfl) _ _ _
  · split_ifs
    · exact .stays (by simp [isOut]) _ _ _
    · exact .stays (fun _ => rfl) _ _ _
  · exact .stays (fun _ => rfl) _ _ _
  · exact .stays (fun _ => rfl) _ _ _
  · exact .stays (by simp [isOut]) _ _ _
  · exact .stays (by simp [isOut]) _ _ _
  · exact .refl c

section
variable (b : State) (ends cut first : Bool)

theorem State.turnAt_follows : (b.endedIf ends cut).ctl.Follows (b.turnAt ends cut) := by
  cases ends with
  | false => exact .refl _
  | true =>
    have hst := b.endedIf_station true cut
    have hended : (b.endedIf true cut).ctl = b.ctl.completed cut := State.endEpoch_ctl
    rw [hended] at hst ⊢
    obtain h | h | h | h | h := StationState.cases_at_mark b.ctl.station
    · rw [State.turnAt_listening h]
      split_ifs
      · exact .stays (by simp [isOut]) _ _ _
      · exact .out (by rw [hst, h]; decide) rfl _ _ _ _
      · exact .stays (fun _ => rfl) _ _ _
    · rw [State.turnAt_serving h]
      split_ifs
      · exact .out (by rw [hst]; rintro hf; simp [← hf] at h) rfl _ _ _ _
      · exact .refl _
      · exact .confirmed _ _
    · rw [State.turnAt_leaving h]
      split_ifs
      · exact .out (by rw [hst, h]; decide) rfl _ _ _ _
      · exact .out (by rw [hst, h]; decide) rfl _ _ _ _
      · exact .stays (fun _ => rfl) _ _ _
    · rw [State.turnAt_fenced h]
      split_ifs
      · exact .stays (by simp [isOut]) _ _ _
      · exact .refl _
    · rw [State.turnAt_idle h]
      exact .refl _

theorem State.ctlAfter_follows : (b.endedIf ends cut).ctl.Follows (b.ctlAfter ends cut first) := by
  have hturn := b.turnAt_follows ends cut
  cases hd : b.drainsByAgeing with
  | false => rwa [State.ctlAfter_of_not_drains hd]
  | true =>
    have hleaving := (State.drainsByAgeing_iff.mp hd).1
    have hne : StationState.quiet ≠ (b.endedIf ends cut).ctl.station := by rw [b.endedIf_station, hleaving]; decide
    cases hf : (first || !ends) with
    | true =>
      rw [State.ctlAfter_of_drains_first hd hf]
      exact .out hne rfl _ _ _ _
    | false =>
      rw [State.ctlAfter_of_drains_last hd hf]
      split_ifs
      · obtain ⟨hreset, hseq, hcount, hprogress, -, -⟩ := hturn
        exact ⟨hreset, hseq, hcount, hprogress, (if_pos ⟨hne, rfl⟩).symm, fun _ => rfl⟩
      · exact hturn

theorem State.ctlAfter_queue :
    (b.ctlAfter ends cut first).queue = if b.outAfter ends cut first then [] else b.queueAfter ends cut := by
  rw [(b.ctlAfter_follows ends cut first).queue, b.endedIf_queue, b.endedIf_station]
  simp [State.outAfter]

theorem State.queueAfter_true : b.queueAfter true cut = if b.ctl.awaiting && !cut then b.ctl.queue.tail else b.ctl.queue := by
  rw [State.queueAfter, if_pos rfl, Control.completed_eq]

/-- No directive awaits the end of an epoch that has ended (R117). -/
theorem State.ctlAfter_awaiting : (b.ctlAfter true cut first).awaiting = false := by
  refine (b.ctlAfter_follows true cut first).awaiting ?_
  change (b.endEpoch cut).ctl.awaiting = false
  rw [State.endEpoch_ctl, Control.completed_eq]

/-! ### The flags that a mark raises, one by one -/

theorem State.deliverMark_fallback :
    (b.deliverMark ends cut first).mgmt.flag .fallback = (b.mgmt.flag .fallback || b.toFallback ends cut) := by
  simp [State.deliverMark_flag]

theorem State.deliverMark_dirDone : (b.deliverMark ends cut first).mgmt.flag .dirDone =
    (b.mgmt.flag .dirDone || (ends && (b.ctl.awaiting && !cut))) := by
  simp [State.deliverMark_flag]

theorem State.deliverMark_dirDrop : (b.deliverMark ends cut first).mgmt.flag .dirDrop =
    (b.mgmt.flag .dirDrop || (b.outAfter ends cut first && !(b.queueAfter ends cut).isEmpty)) := by
  simp [State.deliverMark_flag]

theorem State.deliverMark_fenced : (b.deliverMark ends cut first).mgmt.flag .fenced =
    (b.mgmt.flag .fenced || (b.outAfter ends cut first && (b.ctlAfter ends cut first).station == .fenced)) := by
  simp [State.deliverMark_flag]

theorem State.deliverMark_excluded : (b.deliverMark ends cut first).mgmt.flag .excluded =
    (b.mgmt.flag .excluded || (b.outAfter ends cut first && (b.ctlAfter ends cut first).station == .excluded)) := by
  simp [State.deliverMark_flag]

theorem State.deliverMark_expired : (b.deliverMark ends cut first).mgmt.flag .expired =
    (b.mgmt.flag .expired || b.expiriesAt ends cut first != 0) := by
  simp [State.deliverMark_flag]

end

/-! ### What is promoted -/

section
variable {s b : State} {ends cut first : Bool} {r : Sbi}

theorem State.promoted_of_pending {p : Record} (h : b.alloc.pending = some p) : b.promoted false = { b.alloc with
    standing := p, pending := none, voidCount := b.alloc.pendingVoid, settle := .idle, handOver := none } := by
  simp only [State.promoted, Alloc.promote, h, Bool.false_eq_true, if_false]

theorem State.promoted_of_cut : b.promoted true = b.cutAlloc := rfl

theorem State.cutAlloc_congr (halloc : b.alloc = s.alloc) (hloader : b.loader = s.loader) : b.cutAlloc = s.cutAlloc := by
  have hplan : b.plan = s.plan := by rw [State.plan, hloader]
  have hcount : b.nextVoidCount = s.nextVoidCount := by rw [State.nextVoidCount, State.nextVoidCount, halloc, hplan]
  have hvoid : b.voidSuccessor = s.voidSuccessor := by
    unfold State.voidSuccessor
    rw [hcount, halloc, hplan]
  rw [State.cutAlloc, State.cutAlloc, hcount, hvoid]

theorem State.decide_outAt (hctl : b.ctl = s.ctl) [Decidable (s.outAt (b.after ends cut first r))] :
    decide (s.outAt (b.after ends cut first r)) = b.outAfter ends cut first := by
  rw [Bool.eq_iff_iff, decide_eq_true_iff]
  exact State.outAt_after_iff hctl

/-- The Directive Queue after a mark. -/
theorem State.deliverMark_queue : (b.deliverMark ends cut first).ctl.queue =
    if b.outAfter ends cut first then [] else b.queueAfter ends cut := by
  rw [State.deliverMark_ctl, State.ctlAfter_queue]

end

/-- Settles O14: the promotion of the pending record and the directive completed; a mark out of Unaligned ends no epoch. -/
theorem uncutMarkPromotesThePendingRecord : Obligations.UncutMarkPromotesThePendingRecord := by
  refine ⟨fun time first p s huncut hcomplete hpending => ?_, fun time first s hmark hphase hlistening => ?_⟩
  · obtain ⟨b, r, hmark, halloc, -⟩ := State.MarkOf.of_uncutAt huncut (first := first)
    have halloc := halloc (by rw [hcomplete]; decide)
    obtain ⟨hctl, -, -, -, -, -, -, -, -, -, -, -, -, -, hflags⟩ := hmark.before
    have hpromoted := State.promoted_of_pending (b := b) (by rw [halloc, hpending])
    rw [halloc] at hpromoted
    have hqueue : b.queueAfter true false = if s.ctl.awaiting then s.ctl.queue.tail else s.ctl.queue := by
      rw [State.queueAfter_true, hctl, Bool.not_false, Bool.and_true]
    refine ⟨_, hmark.exec_eq, ?_, ?_, ?_, ?_, ?_⟩
    · change (b.deliverMark true false first).alloc = _
      rw [State.deliverMark_alloc, if_pos rfl, hpromoted]
    · change (b.deliverMark true false first).mgmt.flag .fallback = _
      rw [State.deliverMark_fallback, hflags _ (by decide), State.toFallback, hpromoted, halloc]
      rfl
    · change (b.deliverMark true false first).mgmt.flag .dirDone = _
      rw [State.deliverMark_dirDone, hflags _ (by decide), hctl]
      simp
    · change (b.deliverMark true false first).ctl.awaiting = false
      rw [State.deliverMark_ctl, State.ctlAfter_awaiting]
    · intro queue
      refine ⟨?_, ?_⟩
      · simp only [State.outAt_after_iff hctl]
        rw [State.deliverMark_queue, hqueue]
      · rw [State.decide_outAt hctl]
        change (b.deliverMark true false first).mgmt.flag .dirDrop = _
        rw [State.deliverMark_dirDrop, hflags _ (by decide), hqueue]
  · obtain ⟨b, r, hmark, halloc⟩ := State.MarkOf.of_unaligned hmark hphase (first := first)
    obtain ⟨hctl, -, -, -, -, -, -, -, -, -, -, -, -, -, hflags⟩ := hmark.before
    have hafter : b.ctlAfter false false first = s.ctl := by
      rw [State.ctlAfter_of_not_drains (State.drains_eq_false (by rw [hctl, hlistening]; decide)), ← hctl]
      rfl
    have hstays : b.outAfter false false first = false := by
      rw [Bool.eq_false_iff, Ne, State.outAfter_iff, hafter, hctl]
      exact fun h => h.1 rfl
    refine ⟨_, hmark.exec_eq, ?_, ?_, ?_, ?_⟩
    · exact State.deliverMark_alloc .. |>.trans halloc
    · exact State.deliverMark_ctl .. |>.trans hafter
    · refine (State.deliverMark_dirDone ..).trans ?_
      rw [hflags _ (by decide)]
      simp
    · refine (State.deliverMark_dirDrop ..).trans ?_
      rw [hflags _ (by decide), hstays]
      simp

/-! ### A mark that cuts the epoch -/

section
variable {s b : State} {first : Bool}

/-- A cut moves no station but a Listening or a Leaving one: it makes no eviction test and confirms no result (R98, R99,
R102). -/
theorem State.ctlAfter_of_cut (h : b.ctl.station ≠ .listening) (h' : b.ctl.station ≠ .leaving) :
    b.ctlAfter true true first = b.ctl.completed true := by
  rw [State.ctlAfter_of_not_drains (State.drains_eq_false h')]
  obtain h'' | h'' | h'' | h'' | h'' := StationState.cases_at_mark b.ctl.station
  · exact absurd h'' h
  · rw [State.turnAt_serving h'']
    rfl
  · exact absurd h'' h'
  · rw [State.turnAt_fenced h'']
    rfl
  · exact State.turnAt_idle h''

end

/-- Settles O15: the void record promoted, the epoch begun anew, and the station kept. -/
theorem cutMarkPromotesTheVoidRecord : Obligations.CutMarkPromotesTheVoidRecord := by
  intro c first s hcut
  obtain ⟨b, r, hmark, halloc, hcuts⟩ := State.MarkOf.of_cutBy hcut
  obtain ⟨hctl, hcensus, -, -, -, hloader, -, -, -, hvetoed, -, -, -, hcounters, hflags⟩ := hmark.before
  have hpromoted : b.promoted true = s.cutAlloc := State.promoted_of_cut.trans (State.cutAlloc_congr halloc hloader)
  have hqueue : b.queueAfter true true = s.ctl.queue := by rw [State.queueAfter_true, hctl]; simp
  have hmgmt := b.deliverMark_mgmt true true first
  refine ⟨_, hmark.exec_eq, ?_, ?_, ?_, ?_, ?_, ?_, ?_, ?_, ?_, fun hstation => ?_⟩
  · exact (State.deliverMark_alloc ..).trans hpromoted
  · have hr := hmark.restarted
    refine ⟨⟨hr.timer, hr.txBuffer, hr.readback, hr.vetoDrive, hr.vetoAsked, hr.vetoed, hr.windowClosed⟩, ?_⟩
    change (b.deliverMark true true first).census.heard = _ ∧ (b.deliverMark true true first).census.reasons.any = _
      ∧ (b.deliverMark true true first).census.received = _ ∧ (b.deliverMark true true first).census.ownSent = _
      ∧ (b.deliverMark true true first).census.adopted = _ ∧ (b.deliverMark true true first).census.result = _
    rw [State.deliverMark_census]
    exact ⟨rfl, rfl, rfl, rfl, rfl, rfl⟩
  · refine (State.deliverMark_fallback ..).trans ?_
    rw [hflags _ (by decide), State.toFallback, hpromoted, halloc]
    rfl
  · change (b.deliverMark true true first).mgmt.counters.cutEpochs = _
    rw [hmgmt]
    exact hcuts
  · change (b.deliverMark true true first).mgmt.counters.voidEpochs = _
    have hvoid : b.mgmt.counters.voidEpochs = s.mgmt.counters.voidEpochs := by rw [hcounters]
    rw [hmgmt, hvoid, State.decidedVoid, hvetoed, halloc]
    cases s.sbi.vetoed <;> cases s.alloc.settle <;> rfl
  · exact (congrArg Control.awaiting (State.deliverMark_ctl ..)).trans (State.ctlAfter_awaiting ..)
  · refine (State.deliverMark_dirDone ..).trans ?_
    rw [hflags _ (by decide)]
    simp
  · simp only [State.outAt_after_iff hctl]
    rw [State.deliverMark_queue, hqueue]
  · rw [State.decide_outAt hctl]
    refine (State.deliverMark_dirDrop ..).trans ?_
    rw [hflags _ (by decide), hqueue]
  · have hkept : (b.deliverMark true true first).ctl = s.ctl.completed true := by
      rw [State.deliverMark_ctl, State.ctlAfter_of_cut, hctl]
      · rintro hl; rw [← hctl, hl] at hstation; simp at hstation
      · rintro hl; rw [← hctl, hl] at hstation; simp at hstation
    change (b.deliverMark true true first).ctl.station = _ ∧ (b.deliverMark true true first).ctl.streak = _
      ∧ (b.deliverMark true true first).ctl.queue = _
    rw [hkept, Control.completed_eq]
    simp

end Sys2Proof.Machine

/-! PROOF. The eviction test of a mark that ends a clear epoch, and the results that it confirms (R98 to R103, R109, R110,
R128, R129, R146). -/

namespace Sys2Proof.Machine

open Sys2Proof

/-! ### The eviction test -/

section
variable {s b : State} {cut first : Bool} {r : Sbi}

theorem State.releases_iff {st : StationState} : releases st = true ↔
    (st = .joining ∨ st = .active ∨ st = .resync) ∨ st = .leaving := by
  cases st <;> simp [releases]

theorem State.turnAt_of_fencedAt (hserves : releases b.ctl.station = true) (hfenced : b.fencedAt cut = true) :
    b.turnAt true cut = (b.ctl.completed cut).out .fenced := by
  obtain h | h := State.releases_iff.mp hserves
  · rw [State.turnAt_serving h, if_pos hfenced]
  · rw [State.turnAt_leaving h, if_pos hfenced]

/-- An evicted station is fenced, where no ageing taken first has ended its drain (R102, R106). -/
theorem State.ctlAfter_of_fencedAt (hserves : releases b.ctl.station = true) (hfenced : b.fencedAt cut = true)
    (hdrain : ¬ (first = true ∧ b.drainsByAgeing = true)) :
    b.ctlAfter true cut first = (b.ctl.completed cut).out .fenced := by
  have hturn := State.turnAt_of_fencedAt hserves hfenced
  cases hd : b.drainsByAgeing with
  | false => rw [State.ctlAfter_of_not_drains hd, hturn]
  | true =>
    have hlast : (first || !true) = false := by simpa [hd] using hdrain
    rw [State.ctlAfter_of_drains_last hd hlast, hturn]
    rfl

/-- Where no eviction is confirmed, none but a Fenced station is Fenced after the mark (R102, R103). -/
theorem State.ctlAfter_fenced_iff_of_void (hvoid : b.decidedVoid = true) :
    (b.ctlAfter true cut first).station = .fenced ↔ b.ctl.station = .fenced := by
  have hfenced : b.fencedAt cut = false := by simp [State.fencedAt, hvoid]
  have hst := Control.completed_station cut b.ctl
  by_cases hl : b.ctl.station = .leaving
  · have hturn : (b.turnAt true cut).station ≠ .fenced := by
      rw [State.turnAt_leaving hl, hfenced, if_neg (by decide)]
      split_ifs
      · exact fun h => by cases h
      · rw [show _ = _ from hst, hl]
        decide
    refine iff_of_false ?_ (by rw [hl]; decide)
    rw [State.ctlAfter, State.markedCtl]
    split_ifs
    · exact fun h => by cases h
    · exact fun h => by cases h
    · exact hturn
    · exact hturn
  · rw [State.ctlAfter_of_not_drains (State.drains_eq_false hl)]
    obtain h | h | h | h | h := StationState.cases_at_mark b.ctl.station
    · rw [State.turnAt_listening h, h]
      split_ifs <;> simp [Control.out, hst, h]
    · rw [State.turnAt_serving h, hfenced, hvoid, Bool.or_true, if_neg (by decide), if_pos rfl, hst]
    · exact absurd h hl
    · rw [State.turnAt_fenced h, hvoid, Bool.not_true, Bool.and_false, Bool.false_and, if_neg (by decide), hst]
    · rw [State.turnAt_idle h, hst]

/-- What the eviction test reads at a mark that ends a clear epoch with a pending record. -/
theorem State.fencedAt_of_pending {p : Record} (hvetoed : b.sbi.vetoed = false) (hpending : b.alloc.pending = some p) :
    b.fencedAt false = holds p.admin.evicted b.own := by
  rw [State.fencedAt, State.promoted_of_pending hpending, State.decidedVoid, hvetoed]
  rfl

/-! ### A mark that takes the station out -/

/-- The messages of an entry that finds what the ageing has left of the store. -/
theorem State.deliverMark_sent_of_out (hout : b.outAfter true cut first = true) :
    (b.deliverMark true cut first).sent = b.sent ++
      if b.flushedFirst true cut first then
        b.store.held.map fun (d : Descriptor) => LinkMessage.expired d.tag (exitReason (b.ctlAfter true cut first).station)
      else (b.store.aged b.settings.ageLimit).map (fun (d : Descriptor) => LinkMessage.expired d.tag .age)
        ++ (b.store.held.filter fun d => d.age != b.settings.ageLimit).map fun (d : Descriptor) =>
            LinkMessage.expired d.tag (exitReason (b.ctlAfter true cut first).station) := by
  rw [State.deliverMark_sent, if_pos hout]

theorem State.deliverMark_expiries_of_out {ends : Bool} (hout : b.outAfter ends cut first = true) :
    (b.deliverMark ends cut first).mgmt.counters.expiries = countUp b.store.heldCount b.mgmt.counters.expiries := by
  rw [State.deliverMark_mgmt, State.expiriesAt, if_pos hout]
  rfl

theorem State.deliverMark_expired_of_out {ends : Bool} (hout : b.outAfter ends cut first = true) (hheld : b.store.held ≠ []) :
    (b.deliverMark ends cut first).mgmt.flag .expired = true := by
  rw [State.deliverMark_expired, State.expiriesAt, if_pos hout]
  simp [hheld]

/-- The pacer stops at an entry to a state that does not release (R153). -/
theorem State.deliverMark_stops {ends : Bool} (hst : (b.ctlAfter ends cut first).station ≠ b.ctl.station)
    (hreleases : releases (b.ctlAfter ends cut first).station = false) :
    (b.deliverMark ends cut first).meter.running = false := by
  rw [State.deliverMark_meter, if_neg hst, Meter.enter, hreleases, if_neg (by decide)]

/-- A drain that the ageing ends, by what the ageing takes and what it leaves (R106). -/
theorem State.drainsByAgeing_iff_emptied : s.drainsByAgeing = true ↔ s.ctl.station = .leaving
    ∧ (s.store.held.filter fun d => d.age == s.settings.ageLimit) ≠ []
    ∧ (s.store.held.filter fun d => d.age != s.settings.ageLimit) = [] := by
  rw [State.drainsByAgeing_iff]
  have hleft : (s.store.held.filter fun d => d.age != s.settings.ageLimit) = []
      ↔ ∀ d ∈ s.store.held, d.age = s.settings.ageLimit := by simp [List.filter_eq_nil_iff]
  rw [hleft]
  refine and_congr_right fun _ => and_congr_left fun hall => not_congr ?_
  rw [List.filter_eq_self.mpr fun d hd => beq_iff_eq.mpr (hall d hd)]

end

/-- Settles O16: the eviction test at the mark of a clear epoch, in either order with the ageing, and none at that of a vetoed
one. -/
theorem evictionFencesAndReadmissionRejoins : Obligations.EvictionFencesAndReadmissionRejoins := by
  refine ⟨fun time first p s huncut hvetoed hcomplete hpending => ?_, fun time first s huncut hvetoed hcomplete => ?_⟩
  · intro limit expired aged left emptied queue dropped
    obtain ⟨b, r, hmark, halloc, -⟩ := State.MarkOf.of_uncutAt huncut (first := first)
    have halloc := halloc (by rw [hcomplete]; decide)
    have hdrains := hmark.before.drains
    obtain ⟨hctl, -, hstore, -, hsent, hloader, -, -, -, hveto, -, -, -, hcounters, hflags⟩ := hmark.before
    have hlimit : b.settings.ageLimit = limit := by rw [State.settings, hloader]
    have hown : b.own = s.own := by rw [State.own, hloader]
    have hfenced : b.fencedAt false = holds p.admin.evicted s.own := by
      rw [State.fencedAt_of_pending (by rw [hveto, hvetoed]) (by rw [halloc, hpending]), hown]
    have hqueue : b.queueAfter true false = queue := by
      rw [State.queueAfter_true, hctl, Bool.not_false, Bool.and_true]
    have hemptied : emptied ↔ first = true ∧ b.drainsByAgeing = true := by
      rw [hdrains, State.drainsByAgeing_iff_emptied]
    have hexpiries : b.mgmt.counters.expiries = s.mgmt.counters.expiries := by rw [hcounters]
    refine ⟨fun hserves hevicted hnot => ?_, fun hevicted hempty => ?_, fun hst hclear => ?_, fun hst hevicted => ?_⟩
    · have hafter := State.ctlAfter_of_fencedAt (by rw [hctl, hserves]) (hfenced.trans hevicted) (mt hemptied.mpr hnot)
      have hst : (b.ctlAfter true false first).station = .fenced := by rw [hafter]; rfl
      have hne : (b.ctlAfter true false first).station ≠ b.ctl.station := by
        rw [hst, hctl]
        rintro h
        rw [← h] at hserves
        cases hserves
      have hout : b.outAfter true false first = true := (b.outAfter_iff true false first).mpr ⟨hne, .inr (.inl hst)⟩
      have hflushes : b.flushedFirst true false first = !first := by
        rw [State.flushedFirst, State.turnAt_of_fencedAt (by rw [hctl, hserves]) (hfenced.trans hevicted)]
        rw [hst] at hne
        simp [Control.out, hne, isOut]
      refine ⟨_, hmark.exec_eq, ?_, ?_, State.deliverMark_held_of_out hout, ?_, ?_, ?_, fun hheld => ?_, ?_, ?_, ?_⟩
      · exact (congrArg Control.station (State.deliverMark_ctl ..)).trans hst
      · refine (State.deliverMark_fenced ..).trans ?_
        rw [hout, hst]
        simp
      · refine State.deliverMark_queue.trans ?_
        rw [if_pos hout]
      · refine (State.deliverMark_sent_of_out hout).trans ?_
        rw [hflushes, hst, hlimit, hstore, hsent]
        cases first <;> rfl
      · refine (State.deliverMark_expiries_of_out hout).trans ?_
        rw [hexpiries, hstore]
        rfl
      · exact State.deliverMark_expired_of_out hout (by rwa [hstore])
      · exact State.deliverMark_stops hne (by rw [hst]; rfl)
      · refine (State.deliverMark_dirDrop ..).trans ?_
        rw [hout, hqueue, hflags _ (by decide), Bool.true_and]
      · change (b.deliverMark true false first).ctl.drainCount = _ ∧ (b.deliverMark true false first).ctl.drainProgress = _
          ∧ (b.deliverMark true false first).ctl.drainEpochs = _
        rw [State.deliverMark_ctl, hafter, hctl, Control.completed_eq]
        exact ⟨rfl, rfl, rfl⟩
    · obtain ⟨hfirst, hdrain⟩ := hemptied.mp hempty
      obtain ⟨-, hleaving, haged, hleft⟩ := hempty
      have hall : aged = s.store.held := by
        rw [List.filter_eq_self]
        simpa [left, List.filter_eq_nil_iff] using hleft
      have hafter := State.ctlAfter_of_drains_first (ends := true) (cut := false) hdrain
        (by rw [hfirst]; rfl : (first || !true) = true)
      have hst : (b.ctlAfter true false first).station = .quiet := by rw [hafter]; rfl
      have hne : (b.ctlAfter true false first).station ≠ b.ctl.station := by rw [hst, hctl, hleaving]; decide
      have hout : b.outAfter true false first = true := (b.outAfter_iff true false first).mpr ⟨hne, .inl hst⟩
      refine ⟨_, hmark.exec_eq, ?_, ?_, State.deliverMark_held_of_out hout, ?_, ?_, ?_, ?_, ?_, ?_⟩
      · exact (congrArg Control.station (State.deliverMark_ctl ..)).trans hst
      · refine (State.deliverMark_fenced ..).trans ?_
        rw [hst, hflags _ (by decide)]
        simp
      · refine State.deliverMark_queue.trans ?_
        rw [if_pos hout]
      · refine (State.deliverMark_sent_of_out hout).trans ?_
        rw [if_neg (by simp [State.flushedFirst, hfirst]), hlimit, hstore, hsent]
        change _ ++ (aged.map _ ++ left.map _) = _
        rw [hleft, hall, List.map_nil, List.append_nil]
      · change (b.deliverMark true false first).ctl.drainEpochs = _
        rw [State.deliverMark_ctl, hafter]
        change (b.endEpoch false).ctl.drainEpochs = _
        rw [State.endEpoch_ctl, hctl, Control.completed_eq]
      · refine (State.deliverMark_dirDrop ..).trans ?_
        rw [hout, hqueue, hflags _ (by decide), Bool.true_and]
      · refine (State.deliverMark_expiries_of_out hout).trans ?_
        rw [hexpiries, hstore]
        rfl
      · refine State.deliverMark_expired_of_out hout ?_
        rw [hstore, ← hall]
        exact haged
    · have hafter : b.ctlAfter true false first = { b.ctl.completed false with station := .joining, streak := 0 } := by
        rw [State.ctlAfter_of_not_drains (State.drains_eq_false (by rw [hctl, hst]; decide)),
          State.turnAt_fenced (by rw [hctl, hst])]
        refine if_pos ?_
        have hfenced := hfenced.trans hclear
        rw [State.fencedAt, State.decidedVoid, hveto, hvetoed] at hfenced
        rw [State.decidedVoid, hveto, hvetoed]
        simpa using hfenced
      refine ⟨_, hmark.exec_eq, ?_, ?_, ?_⟩
      · exact (congrArg Control.station (State.deliverMark_ctl ..)).trans (congrArg Control.station hafter)
      · exact (congrArg Control.streak (State.deliverMark_ctl ..)).trans (congrArg Control.streak hafter)
      · refine (State.deliverMark_fenced ..).trans ?_
        rw [hafter, hflags _ (by decide)]
        simp
    · refine ⟨_, hmark.exec_eq, (congrArg Control.station (State.deliverMark_ctl ..)).trans ?_⟩
      rw [State.ctlAfter_of_not_drains (State.drains_eq_false (by rw [hctl, hst]; decide)),
        State.turnAt_fenced (by rw [hctl, hst])]
      have hfenced := hfenced.trans hevicted
      rw [State.fencedAt, State.decidedVoid, hveto, hvetoed] at hfenced
      rw [State.decidedVoid, hveto, hvetoed, if_neg, Control.completed_station, hctl, hst]
      simpa using hfenced
  · obtain ⟨b, r, hmark, halloc, -⟩ := State.MarkOf.of_uncutAt huncut (first := first)
    have halloc := halloc (by rw [hcomplete]; decide)
    obtain ⟨hctl, -, -, -, -, -, -, -, -, hveto, -, -, -, -, hflags⟩ := hmark.before
    have hvoid : b.decidedVoid = true := by rw [State.decidedVoid, hveto, hvetoed, halloc, hcomplete]; rfl
    have hiff := State.ctlAfter_fenced_iff_of_void hvoid (cut := false) (first := first)
    refine ⟨_, hmark.exec_eq, ?_, ?_⟩
    · refine (State.deliverMark_fenced ..).trans ?_
      have hnone : (b.outAfter true false first && (b.ctlAfter true false first).station == .fenced) = false := by
        rw [Bool.and_eq_false_iff, beq_eq_false_iff_ne, or_iff_not_imp_right, not_not]
        intro hf
        rw [Bool.eq_false_iff, Ne, State.outAfter_iff, hf, hiff.mp hf]
        exact fun h => h.1 rfl
      rw [hnone, Bool.or_false, hflags _ (by decide)]
    · rw [← hctl, ← hiff]
      exact iff_of_eq (congrArg (· = _) (congrArg Control.station (State.deliverMark_ctl ..)))

end Sys2Proof.Machine

/-! PROOF. The tally results confirmed at a mark (R98 to R102, R128, R129). -/

namespace Sys2Proof.Machine

open Sys2Proof

section
variable {s b : State} {cut first : Bool}

/-! ### The registers after a confirmed result -/

section
variable {c : Control} {result : Option TallyResult}

theorem Control.confirmed_active (h : c.station = .active) : c.confirmed result =
    if result = some .minority then { c with station := .resync, streak := 0 } else c := by
  unfold Control.confirmed
  rw [h]
  rcases result with _ | (_ | _ | _ | _ | _) <;> rfl

theorem Control.confirmed_match (h : c.station = .joining ∨ c.station = .resync) : c.confirmed (some .match) =
    if satInc 2 c.streak = 2 then { c with station := .active, streak := satInc 2 c.streak }
    else { c with streak := satInc 2 c.streak } := by
  unfold Control.confirmed
  obtain h | h := h <;> rw [h]

theorem Control.confirmed_mismatch (h : c.station = .joining ∨ c.station = .resync) :
    c.confirmed (some .mismatch) = { c with streak := 0 } := by
  unfold Control.confirmed
  obtain h | h := h <;> rw [h]

theorem Control.confirmed_lone (h : c.station = .joining ∨ c.station = .resync) :
    c.confirmed (some .lone) = { c with station := .active } := by
  unfold Control.confirmed
  obtain h | h := h <;> rw [h]

theorem Control.confirmed_other (h : c.station = .joining ∨ c.station = .resync)
    (hresult : result = none ∨ result = some .agree ∨ result = some .minority) : c.confirmed result = c := by
  unfold Control.confirmed
  obtain h | h := h <;> obtain rfl | rfl | rfl := hresult <;> rw [h]

end

/-- At the mark of a clear epoch that evicts no station the registers are those of the confirmed result (R98). -/
theorem State.ctlAfter_of_confirmed (h : b.ctl.station = .joining ∨ b.ctl.station = .active ∨ b.ctl.station = .resync)
    (hfenced : b.fencedAt false = false) (hclear : b.decidedVoid = false) :
    b.ctlAfter true false first = (b.ctl.completed false).confirmed b.census.result := by
  have hleaving : b.ctl.station ≠ .leaving := by rintro hl; simp [hl] at h
  rw [State.ctlAfter_of_not_drains (State.drains_eq_false hleaving), State.turnAt_serving h, hfenced, hclear]
  rfl

/-- At the mark of a vetoed epoch a serving station is kept as it is (R102). -/
theorem State.ctlAfter_of_void (h : b.ctl.station = .joining ∨ b.ctl.station = .active ∨ b.ctl.station = .resync)
    (hvoid : b.decidedVoid = true) : b.ctlAfter true false first = b.ctl.completed false := by
  have hleaving : b.ctl.station ≠ .leaving := by rintro hl; simp [hl] at h
  rw [State.ctlAfter_of_not_drains (State.drains_eq_false hleaving), State.turnAt_serving h, State.fencedAt, hvoid]
  rfl

/-- In Quiet and Excluded no mark turns the station (R98, R102). -/
theorem State.ctlAfter_of_out {ends : Bool} (h : b.ctl.station = .quiet ∨ b.ctl.station = .excluded) :
    b.ctlAfter ends cut first = if ends then b.ctl.completed cut else b.ctl := by
  have hleaving : b.ctl.station ≠ .leaving := by rintro hl; simp [hl] at h
  rw [State.ctlAfter_of_not_drains (State.drains_eq_false hleaving)]
  cases ends with
  | true => exact State.turnAt_idle (.inr (.inr h))
  | false => rfl

theorem State.outAfter_of_same {ends : Bool} (h : (b.ctlAfter ends cut first).station = b.ctl.station) :
    b.outAfter ends cut first = false := by
  rw [State.outAfter, h]
  simp

theorem Control.completed_streak (c : Control) : (c.completed cut).streak = c.streak := by rw [Control.completed_eq]

/-- A monitor in use that is masked, at a mark that takes the station to Active (R128, R129). -/
theorem State.deliverMark_monitors_unmasked {i : Fin 4} (hst : (b.ctlAfter true cut first).station ≠ b.ctl.station)
    (hactive : (b.ctlAfter true cut first).station = .active) (huse : inUse b i = true)
    (hmasked : b.monitors[i].state = .masked) : (b.deliverMark true cut first).monitors[i] =
      if 3 ≤ b.monitors[i].marks then { b.monitors[i] with state := .stale, highCount := 0, lowCount := 0, marks := 4 }
      else if b.monitors[i].highCount = b.settings.monitors[i].debounce then
        { b.monitors[i] with state := .pressed, highCount := 0, lowCount := 0, marks := b.monitors[i].marks + 1 }
      else { b.monitors[i] with state := .clear, marks := b.monitors[i].marks + 1 } := by
  rw [State.deliverMark_monitors, if_pos huse, if_pos ⟨hst, hactive⟩, Monitor.mark_endMask]
  simp only [hmasked, true_and, if_true]

end

/-- Settles O17: what each confirmed result makes of the station and its streak, and where none is confirmed. -/
theorem confirmedResultsMoveTheStation : Obligations.ConfirmedResultsMoveTheStation := by
  refine ⟨fun time first p s huncut hvetoed hcomplete hpending hclear hstreak => ?_,
    fun time first s huncut hvetoed hcomplete hst => ?_, fun time first s hmark hst => ?_⟩
  · intro result proving
    obtain ⟨b, r, hmark, halloc, -⟩ := State.MarkOf.of_uncutAt huncut (first := first)
    have halloc := halloc (by rw [hcomplete]; decide)
    obtain ⟨hctl, hcensus, -, hmonitors, -, hloader, -, -, -, hveto, -, -, -, -, -⟩ := hmark.before
    have hown : b.own = s.own := by rw [State.own, hloader]
    have hfenced : b.fencedAt false = false := by
      rw [State.fencedAt_of_pending (by rw [hveto, hvetoed]) (by rw [halloc, hpending]), hown, hclear]
    have hvoid : b.decidedVoid = false := by rw [State.decidedVoid, hveto, hvetoed]; rfl
    have hsame := Control.completed_station false s.ctl
    have hkept := Control.completed_streak (cut := false) s.ctl
    have hafter (h : s.ctl.station = .joining ∨ s.ctl.station = .active ∨ s.ctl.station = .resync) :
        (b.deliverMark true false first).ctl = (s.ctl.completed false).confirmed result := by
      rw [State.deliverMark_ctl, State.ctlAfter_of_confirmed (by rwa [hctl]) hfenced hvoid, hctl, hcensus]
    refine ⟨fun hactive => ?_, fun hproving => ?_⟩
    · have hafter := hafter (.inr (.inl hactive))
      rw [Control.confirmed_active (hsame.trans hactive)] at hafter
      refine ⟨_, hmark.exec_eq, fun hminority => ?_, fun hnot => ?_⟩
      · rw [if_pos hminority] at hafter
        exact ⟨congrArg Control.station hafter, congrArg Control.streak hafter⟩
      · rw [if_neg hnot] at hafter
        exact ⟨(congrArg Control.station hafter).trans (hsame.trans hactive), (congrArg Control.streak hafter).trans hkept⟩
    · have hafter := hafter (hproving.imp_right .inr)
      have hproves : (s.ctl.completed false).station = .joining ∨ (s.ctl.completed false).station = .resync := by
        rwa [hsame]
      refine ⟨_, hmark.exec_eq, fun hresult hzero => ?_, fun hresult hone => ?_, fun hresult => ?_, fun hresult => ?_,
        fun hresult => ?_, fun hactive i huse hmasked => ?_⟩
      · rw [hresult, Control.confirmed_match hproves, hkept, hzero] at hafter
        exact ⟨(congrArg Control.station hafter).trans hsame, congrArg Control.streak hafter⟩
      · have htwo : satInc 2 s.ctl.streak = 2 := by simp only [satInc]; omega
        rw [hresult, Control.confirmed_match hproves, hkept, htwo] at hafter
        exact ⟨congrArg Control.station hafter, congrArg Control.streak hafter⟩
      · rw [hresult, Control.confirmed_mismatch hproves] at hafter
        exact ⟨(congrArg Control.station hafter).trans hsame, congrArg Control.streak hafter⟩
      · rw [hresult, Control.confirmed_lone hproves] at hafter
        exact ⟨congrArg Control.station hafter, (congrArg Control.streak hafter).trans hkept⟩
      · rw [Control.confirmed_other hproves hresult] at hafter
        exact ⟨(congrArg Control.station hafter).trans hsame, (congrArg Control.streak hafter).trans hkept⟩
      · have hst : (b.ctlAfter true false first).station = .active := by rw [← State.deliverMark_ctl]; exact hactive
        have hne : (b.ctlAfter true false first).station ≠ b.ctl.station := by
          rw [hst, hctl]
          rintro h
          simp [proving, ← h] at hproving
        have hinUse : inUse b i = true := by rwa [inUse, hloader, decide_eq_true_eq]
        have hmonitor := State.deliverMark_monitors_unmasked hne hst hinUse (by rwa [hmonitors])
        rw [hmonitors, State.settings, hloader] at hmonitor
        exact hmonitor
  · obtain ⟨b, r, hmark, halloc, -⟩ := State.MarkOf.of_uncutAt huncut (first := first)
    have halloc := halloc (by rw [hcomplete]; decide)
    obtain ⟨hctl, -, -, -, -, -, -, -, -, hveto, -, -, -, -, -⟩ := hmark.before
    have hvoid : b.decidedVoid = true := by rw [State.decidedVoid, hveto, hvetoed, halloc, hcomplete]; rfl
    have hafter : (b.deliverMark true false first).ctl = s.ctl.completed false := by
      rw [State.deliverMark_ctl, State.ctlAfter_of_void (by rwa [hctl]) hvoid, hctl]
    exact ⟨_, hmark.exec_eq, (congrArg Control.station hafter).trans (Control.completed_station ..),
      (congrArg Control.streak hafter).trans (Control.completed_streak ..)⟩
  · have hmark := State.MarkOf.trueMark hmark (first := first)
    generalize (s.advanceTo time).sbi.inEpoch = ends, (s.advanceTo time).sbi.cutBy = cut at hmark
    obtain ⟨hctl, -, -, -, -, -, -, -, -, -, -, -, -, -, hflags⟩ := hmark.before
    have hafter := State.ctlAfter_of_out (by rwa [hctl]) (ends := ends) (cut := cut) (first := first)
      (b := (s.advanceTo time).beforeTrueMark)
    rw [hctl] at hafter
    have hsame : ((s.advanceTo time).beforeTrueMark.ctlAfter ends cut first).station
        = (s.advanceTo time).beforeTrueMark.ctl.station := by
      rw [hafter, hctl]
      cases ends with
      | true => exact Control.completed_station cut s.ctl
      | false => rfl
    have hstays := State.outAfter_of_same hsame
    refine ⟨_, hmark.exec_eq, ?_, ?_, ?_⟩
    · have hkept : ((s.advanceTo time).beforeTrueMark.deliverMark ends cut first).ctl = { s.ctl with
          queue := ((s.advanceTo time).beforeTrueMark.deliverMark ends cut first).ctl.queue
          awaiting := ((s.advanceTo time).beforeTrueMark.deliverMark ends cut first).ctl.awaiting } := by
        rw [State.deliverMark_ctl, hafter, Control.completed_eq]
        cases ends <;> rfl
      exact hkept
    · refine (State.deliverMark_excluded ..).trans ?_
      rw [hstays, hflags _ (by decide), Bool.false_and, Bool.or_false]
    · refine (State.deliverMark_fenced ..).trans ?_
      rw [hstays, hflags _ (by decide), Bool.false_and, Bool.or_false]

end Sys2Proof.Machine

/-! PROOF. The three commands that make a mark, each with what the SBI, the counters and the captures become, and what no
mark touches (R19, R22, R23, R37, R41, R42). -/

namespace Sys2Proof.Machine

open Sys2Proof

section
variable {s b : State} {c : Instr} {ends cut first : Bool} {r : Sbi} {time : Nat}

theorem Monitor.mark_lastReading (m : Monitor) : m.mark.lastReading = m.lastReading := by
  rw [Monitor.mark_eq]
  split_ifs <;> rfl

theorem Monitor.endMask_lastReading (m : Monitor) (d : Nat) : (m.endMask d).lastReading = m.lastReading := by
  unfold Monitor.endMask
  split_ifs <;> rfl

theorem State.deliverMark_lastReading (i : Fin 4) :
    (b.deliverMark ends cut first).monitors[i].lastReading = b.monitors[i].lastReading := by
  rw [State.deliverMark_monitors]
  split_ifs
  · rw [Monitor.mark_lastReading, Monitor.endMask_lastReading]
  · rw [Monitor.mark_lastReading]
  · rfl

theorem State.MarkOf.markFrame (h : s.MarkOf c ends cut first b r) : s.markFrame (b.after ends cut first r) := by
  obtain ⟨hctl, hcensus, hstore, hmonitors, -, hloader, hpending, hreset, -, -, -, -, hmgmt, hcounters, -⟩ := h.before
  obtain ⟨hloader', hpending', hreset'⟩ := b.deliverMark_frame ends cut first
  obtain ⟨hlast, hseq, hcount, hprogress, -, -⟩ := b.ctlAfter_follows ends cut first
  have hended : (b.endedIf ends cut).ctl = { s.ctl with
      queue := (b.endedIf ends cut).ctl.queue, awaiting := (b.endedIf ends cut).ctl.awaiting } := by
    rw [← hctl]
    cases ends with
    | true =>
      change (b.endEpoch cut).ctl = { b.ctl with
        queue := (b.endEpoch cut).ctl.queue, awaiting := (b.endEpoch cut).ctl.awaiting }
      rw [State.endEpoch_ctl, Control.completed_eq]
    | false => rfl
  rw [hended] at hlast hseq hcount hprogress
  rw [← State.deliverMark_ctl] at hlast hseq hcount hprogress
  have hdelivered := b.deliverMark_mgmt ends cut first
  rw [hmgmt, hcounters] at hdelivered
  refine ⟨⟨hpending'.trans hpending, hloader'.trans hloader, hreset'.trans hreset, h.restarted.running, h.restarted.clash⟩,
    ⟨?_, ?_, hlast, hseq, hcount, hprogress, ?_, fun i => ?_⟩, ?_, ?_⟩
  · refine (congrArg Census.peers (State.deliverMark_census ..)).trans ?_
    rw [hcensus]
    rfl
  · refine (congrArg Census.activeHeard (State.deliverMark_census ..)).trans ?_
    rw [hcensus]
    rfl
  · refine (congrArg Store.history (State.deliverMark_store ..)).trans ?_
    rw [hstore]
    split_ifs <;> rfl
  · exact (State.deliverMark_lastReading i).trans (by rw [hmonitors])
  · change (b.deliverMark ends cut first).mgmt.transaction = _ ∧ (b.deliverMark ends cut first).mgmt.response = _
      ∧ (b.deliverMark ends cut first).mgmt.mask = _ ∧ (b.deliverMark ends cut first).mgmt.checkMode = _
      ∧ (b.deliverMark ends cut first).mgmt.agreement = _ ∧ (b.deliverMark ends cut first).mgmt.config = _
    rw [hdelivered]
    exact ⟨rfl, rfl, rfl, rfl, rfl, rfl⟩
  · change (b.deliverMark ends cut first).mgmt.counters.offersTaken = _
      ∧ (b.deliverMark ends cut first).mgmt.counters.offersRefused = _
      ∧ (b.deliverMark ends cut first).mgmt.counters.releases = _ ∧ (b.deliverMark ends cut first).mgmt.counters.recalls = _
      ∧ (b.deliverMark ends cut first).mgmt.counters.badFrames = _
      ∧ (b.deliverMark ends cut first).mgmt.counters.ignoredReports = _
    rw [hdelivered]
    exact ⟨rfl, rfl, rfl, rfl, rfl, rfl⟩

/-- What a mark leaves for the epoch it begins. -/
theorem State.MarkOf.atEpochStart (h : s.MarkOf c ends cut first b r) : (b.after ends cut first r).atEpochStart := by
  have hr := h.restarted
  refine ⟨⟨hr.timer, hr.txBuffer, hr.readback, hr.vetoDrive, hr.vetoAsked, hr.vetoed, hr.windowClosed⟩, ?_⟩
  change (b.deliverMark ends cut first).census.heard = _ ∧ (b.deliverMark ends cut first).census.reasons.any = _
    ∧ (b.deliverMark ends cut first).census.received = _ ∧ (b.deliverMark ends cut first).census.ownSent = _
    ∧ (b.deliverMark ends cut first).census.adopted = _ ∧ (b.deliverMark ends cut first).census.result = _
  rw [State.deliverMark_census]
  exact ⟨rfl, rfl, rfl, rfl, rfl, rfl⟩

/-- The captures of the bus and the two counters of marks are as the mark finds them. -/
theorem State.deliverMark_marks : (b.deliverMark ends cut first).mgmt.bus = b.mgmt.bus
    ∧ (b.deliverMark ends cut first).mgmt.counters.trueMarks = b.mgmt.counters.trueMarks
    ∧ (b.deliverMark ends cut first).mgmt.counters.cutEpochs = b.mgmt.counters.cutEpochs := by
  rw [State.deliverMark_mgmt]
  exact ⟨rfl, rfl, rfl⟩

/-! ### A true mark -/

theorem State.beforeTrueMark_marks (s : State) : s.beforeTrueMark.mgmt.bus = s.mgmt.bus
    ∧ s.beforeTrueMark.mgmt.counters.trueMarks = countUp 1 s.mgmt.counters.trueMarks
    ∧ s.beforeTrueMark.mgmt.counters.cutEpochs = countUp s.sbi.cutBy.toNat s.mgmt.counters.cutEpochs := by
  simp only [State.beforeTrueMark, State.countMark, State.modCounters, State.modMgmt]
  rw [s.settleDue_mgmt]
  exact ⟨rfl, rfl, rfl⟩

/-- A released SYNC is being driven by nobody (R22). -/
theorem SyncDrive.marked_released (p : Prop) [Decidable p] (d : SyncDrive) :
    (if (if p then .released else d) = .attempting then .marking else if p then .released else d) =
      if p then .released else if d = .attempting then .marking else d := by
  by_cases hp : p <;> simp [hp]

/-- The SBI after a true mark, but for what every mark restarts. -/
theorem State.trueSbi_eq (s : State) : (s.trueSbi first).seq = s.sbi.seq + 1 ∧ (s.trueSbi first).phase = .markGuard
    ∧ (s.trueSbi first).faults = { s.sbi.faults with syncLow := false, syncHigh := false }
    ∧ (s.trueSbi first).syncDrive =
        if (s.beforeTrueMark.ctlAfter s.sbi.inEpoch s.sbi.cutBy first).station ≠ s.ctl.station
          ∧ drivesSync (s.beforeTrueMark.ctlAfter s.sbi.inEpoch s.sbi.cutBy first).station = false then .released
        else if s.sbi.syncDrive = .attempting then .marking else s.sbi.syncDrive := by
  obtain ⟨-, -, hseq, -, hfaults⟩ := s.beforeTrueMark.deliverMark_sbi_keeps s.sbi.inEpoch s.sbi.cutBy first
  have hdrive := s.beforeTrueMark.deliverMark_syncDrive s.sbi.inEpoch s.sbi.cutBy first
  have hctl : s.beforeTrueMark.ctl = s.ctl := s.settleDue_ctl
  rw [s.beforeTrueMark_sbi] at hseq hfaults hdrive
  rw [hctl] at hdrive
  rw [State.trueSbi, State.sbiTrueMark_eq]
  dsimp only
  rw [hseq, hfaults, hdrive]
  exact ⟨rfl, rfl, rfl, SyncDrive.marked_released _ _⟩

end

/-- Settles O13: the epoch that a true mark begins, and how it counts the one before. -/
theorem trueMarkRestartsTheEpoch : Obligations.TrueMarkRestartsTheEpoch := by
  intro time first s hmark
  have hmarkOf := State.MarkOf.trueMark hmark (first := first)
  have hsbi := State.advanceTo_sbi_of_markAt hmark
  have hcut := State.cutBy_of_markAt hmark
  obtain ⟨hseq, hphase, hfaults, hdrive⟩ := (s.advanceTo time).trueSbi_eq (first := first)
  obtain ⟨hbus, htrue, hcuts⟩ := (s.advanceTo time).beforeTrueMark_marks
  obtain ⟨hbus', htrue', hcuts'⟩ := State.deliverMark_marks (b := (s.advanceTo time).beforeTrueMark)
    (ends := (s.advanceTo time).sbi.inEpoch) (cut := (s.advanceTo time).sbi.cutBy) (first := first)
  rw [hcut] at hcuts
  have hstart : (s.advanceTo time).sbi.syncDrive = s.sbi.syncDrive := by rw [hsbi]
  rw [hstart, ← State.deliverMark_ctl] at hdrive
  rw [hsbi] at hseq hfaults
  refine ⟨_, hmarkOf.exec_eq, hmarkOf.atEpochStart, hseq, hphase, hmarkOf.restarted.running.trans hmark.2.1, hdrive, hfaults,
    htrue'.trans htrue, ?_, hbus'.trans hbus, hmarkOf.markFrame⟩
  refine (hcuts'.trans hcuts).trans ?_
  split_ifs with h
  · rw [decide_eq_true h]
    rfl
  · rw [decide_eq_false h]
    rfl

/-! ### The local marks -/

section
variable {s b : State} {first : Bool}

theorem State.promoted_congr (halloc : b.alloc = s.alloc) (hloader : b.loader = s.loader) : b.promoted true = s.cutAlloc :=
  State.promoted_of_cut.trans (State.cutAlloc_congr halloc hloader)

/-- What time leaves of the SBI. -/
theorem State.advanceTo_sbi_keeps (s : State) (time : Nat) : (s.advanceTo time).sbi.seq = s.sbi.seq
    ∧ (s.advanceTo time).sbi.faults = s.sbi.faults ∧ (s.advanceTo time).sbi.syncDrive = s.sbi.syncDrive
    ∧ (s.sbi.phase = .stalled → (s.advanceTo time).sbi.phase = .stalled) := by
  simp only [State.advanceTo, State.passTime_sbi, Sbi.passTime]
  split_ifs
  · exact ⟨rfl, rfl, rfl, fun h => by rw [h]; rfl⟩
  · exact ⟨rfl, rfl, rfl, id⟩

/-- No local mark drives SYNC (R37). -/
theorem State.localSbi_syncDrive (s : State) (first : Bool) :
    (s.localSbi first).syncDrive = s.sbi.syncDrive ∨ (s.localSbi first).syncDrive = .released := by
  have hmarked : (s.localSbi first).syncDrive = (s.countCut.deliverMark true true first).sbi.syncDrive := rfl
  rw [hmarked, State.deliverMark_syncDrive]
  split_ifs
  · exact .inr rfl
  · exact .inl rfl

/-- SYNC released stays so at a local mark. -/
theorem State.localSbi_released (s : State) (first : Bool) (h : s.sbi.syncDrive = .released) :
    (s.localSbi first).syncDrive = .released :=
  (s.localSbi_syncDrive first).elim (fun hsame => hsame.trans h) id

theorem State.syncHigh_sbi (s : State) : s.syncHigh.sbi = { s.sbi with
    faults := { s.sbi.faults with syncHigh := true }, txBuffer := none, readback := .idle, phase := .stalled
    syncDrive := .released } := by
  rw [State.syncHigh_eq]

theorem State.syncHigh_countCut_mgmt (s : State) : s.syncHigh.countCut.mgmt = { s.mgmt.raiseIf (!s.sbi.faults.any) .line with
    bus := if s.sbi.faults.syncHigh then s.mgmt.bus else s.mgmt.bus.record (.syncHigh s.sbi.seq)
    counters := { s.mgmt.counters with cutEpochs := countUp 1 s.mgmt.counters.cutEpochs } } := by
  rw [State.countCut, State.syncHigh_eq]
  cases s.sbi.faults.any <;> rfl

end

/-- Settles O11: the drive of SYNC at E_len, and the local mark while SYNC is stuck low. -/
theorem timerExpiryDrivesSyncOrMarks : Obligations.TimerExpiryDrivesSyncOrMarks := by
  intro first s u
  have hu : s.advanceTo s.epochBitTimes = u := by rw [s.epochBitTimes_eq]
  obtain ⟨hseq, hfaults, hdrive, hstalled⟩ := s.advanceTo_sbi_keeps s.epochBitTimes
  refine ⟨fun hdrives hlow => ?_, fun sync hdrives => ?_, fun sync hdrives hlow hphase => ?_, rfl⟩
  · have hlow' : (s.advanceTo s.epochBitTimes).sbi.faults.syncLow = false := by rw [hfaults, hlow]
    rw [exec_epochTimerExpiry hdrives, exec_epochTimerExpiry hdrives, State.timerExpired, State.timerExpired, hlow', hu]
    exact ⟨rfl, rfl⟩
  · rw [← hu]
    refine congrArg Host.Outcome.next (if_neg ?_)
    rw [hdrives]
    decide
  · have hmark := State.MarkOf.timerExpiry hdrives hlow sync (first := first)
    obtain ⟨hseq', hphase', hfaults'⟩ := (s.advanceTo s.epochBitTimes).localSbi_keeps first
    obtain ⟨hbus, htrue, hcuts⟩ := State.deliverMark_marks (b := (s.advanceTo s.epochBitTimes).countCut) (ends := true)
      (cut := true) (first := first)
    have hdrive' := (s.advanceTo s.epochBitTimes).localSbi_syncDrive first
    rw [hdrive] at hdrive'
    have halloc : ((s.advanceTo s.epochBitTimes).countCut.deliverMark true true first).alloc = s.cutAlloc :=
      (State.deliverMark_alloc ..).trans (State.promoted_congr rfl rfl)
    exact ⟨_, hmark.exec_eq, hmark.restarted.timer, hphase'.trans (hstalled hphase), hseq'.trans hseq, hfaults'.trans hfaults,
      hdrive', halloc, hcuts, htrue, hbus, hmark.markFrame⟩

/-- Settles O12: SYNC found high where it was to be driven, and the mark that this makes. -/
theorem syncHighFaultIsALocalMark : Obligations.SyncHighFaultIsALocalMark := by
  intro first s hattempting
  have hmark := State.MarkOf.syncHigh hattempting (first := first)
  obtain ⟨hseq, hphase, hfaults⟩ := s.syncHigh.localSbi_keeps first
  obtain ⟨hbus, htrue, hcuts⟩ := State.deliverMark_marks (b := s.syncHigh.countCut) (ends := true) (cut := true)
    (first := first)
  have hreleased := s.syncHigh.localSbi_released first (by rw [s.syncHigh_sbi])
  have hbefore : s.syncHigh.countCut.alloc = s.alloc := by rw [State.countCut, State.syncHigh_eq]; rfl
  have halloc : (s.syncHigh.countCut.deliverMark true true first).alloc = s.cutAlloc :=
    (State.deliverMark_alloc ..).trans (State.promoted_congr hbefore hmark.before.loader)
  rw [s.syncHigh_sbi] at hseq hphase hfaults
  rw [s.syncHigh_countCut_mgmt] at hbus htrue hcuts
  refine ⟨_, hmark.exec_eq, hreleased, hfaults, hphase, hmark.restarted.timer, hseq, hmark.restarted.txBuffer,
    hmark.restarted.vetoDrive, fun hnone => ?_, hbus, halloc, hcuts, ?_, hmark.markFrame⟩
  · change (s.syncHigh.countCut.deliverMark true true first).mgmt.flag .line = true
    have hline : s.syncHigh.countCut.mgmt.flag .line = true := by
      rw [s.syncHigh_countCut_mgmt, hnone]
      change (s.mgmt.raiseIf true .line).flag .line = true
      simp [Mgmt.flag_raiseIf]
    simp [State.deliverMark_flag, hline]
  · exact htrue

end Sys2Proof.Machine

/-! PROOF. The drain of a Leaving station at a mark, and at a release (R105, R106, R109, R110). -/

namespace Sys2Proof.Machine

open Sys2Proof

section
variable {s b : State} {cut first : Bool}

/-- The drain at a mark that does not fence the station: ended by the ageing before its epochs are counted, by their limit or by
the ageing after, or not at all (R105, R106). -/
theorem State.ctlAfter_of_leaving (h : b.ctl.station = .leaving) (hfenced : b.fencedAt cut = false) :
    b.ctlAfter true cut first =
      if first = true ∧ b.drainsByAgeing = true then (b.ctl.completed cut).out .quiet
      else if satInc 255 b.ctl.drainEpochs = b.settings.drainLimit ∨ b.drainsByAgeing = true then
        { (b.ctl.completed cut).out .quiet with drainEpochs := satInc 255 b.ctl.drainEpochs }
      else { b.ctl.completed cut with drainEpochs := satInc 255 b.ctl.drainEpochs } := by
  have hturn := State.turnAt_leaving h (cut := cut)
  have hst := (Control.completed_station cut b.ctl).trans h
  rw [hfenced, if_neg (by decide)] at hturn
  cases hd : b.drainsByAgeing with
  | false =>
    rw [State.ctlAfter_of_not_drains hd, hturn]
    simp
  | true =>
    cases first with
    | true =>
      rw [State.ctlAfter_of_drains_first hd rfl]
      exact (congrArg (Control.out · .quiet) State.endEpoch_ctl).trans (if_pos ⟨rfl, rfl⟩).symm
    | false =>
      rw [State.ctlAfter_of_drains_last hd rfl, hturn]
      by_cases hlimit : satInc 255 b.ctl.drainEpochs = b.settings.drainLimit
      · simp [hlimit, Control.out]
      · simp [hlimit, Control.out, hst]

/-- What a drain that a mark ends leaves (R106, R109, R110, R153). -/
theorem State.deliverMark_of_drained (h : b.ctl.station = .leaving)
    (hquiet : (b.ctlAfter true cut first).station = .quiet) : (b.deliverMark true cut first).store.held = []
      ∧ (b.deliverMark true cut first).ctl.queue = [] ∧ (b.deliverMark true cut first).meter.running = false
      ∧ (b.deliverMark true cut first).mgmt.flag .dirDrop =
          (b.mgmt.flag .dirDrop || !(b.queueAfter true cut).isEmpty) := by
  have hne : (b.ctlAfter true cut first).station ≠ b.ctl.station := by rw [hquiet, h]; decide
  have hout : b.outAfter true cut first = true := (b.outAfter_iff true cut first).mpr ⟨hne, .inl hquiet⟩
  refine ⟨State.deliverMark_held_of_out hout, ?_, State.deliverMark_stops hne (by rw [hquiet]; rfl), ?_⟩
  · rw [State.deliverMark_queue, if_pos hout]
  · rw [State.deliverMark_dirDrop, hout, Bool.true_and]

/-- A mark that ends an epoch, with whether it is the one that cuts it. -/
theorem State.MarkOf.of_endedBy_cut {c : Instr} (h : s.endedBy c first) : ∃ cut b r, s.MarkOf c true cut first b r
    ∧ (cut = true ↔ s.cutBy c first) ∧ (cut = false → s.alloc.settle ≠ .idle → b.alloc.settle = .complete) := by
  by_cases hcut : s.cutBy c first
  · obtain ⟨b, r, hmark, -⟩ := State.MarkOf.of_cutBy hcut
    exact ⟨true, b, r, hmark, iff_of_true rfl hcut, fun hf => by cases hf⟩
  · obtain h | ⟨time, rfl, huncut⟩ := h
    · exact absurd h hcut
    · obtain ⟨b, r, hmark, hkept, hdue⟩ := State.MarkOf.of_uncutAt huncut (first := first)
      refine ⟨false, b, r, hmark, iff_of_false (by decide) hcut, fun _ hidle => ?_⟩
      cases hsettle : s.alloc.settle with
      | idle => exact absurd hsettle hidle
      | inFlight => exact hdue hsettle
      | complete => rw [hkept (by rw [hsettle]; decide), hsettle]

end

/-- Settles O52: the drain counted at a release and at a mark, and its ends. -/
theorem releasesEndTheDrain : Obligations.ReleasesEndTheDrain := by
  refine ⟨fun slot d rest s hrun hslot hst hhalt hskip hq hcredit =>
    exec_pacerStep_drain hrun hslot hhalt hskip hq hcredit hst, fun c first s hended hst => ?_⟩
  intro epochs emptied
  obtain ⟨cut, b, r, hmark, hcut, hdue⟩ := State.MarkOf.of_endedBy_cut hended
  have hdrains := hmark.before.drains
  obtain ⟨hctl, -, -, -, -, hloader, -, -, -, hveto, -, -, -, -, hflags⟩ := hmark.before
  have hframe := hmark.markFrame
  obtain ⟨-, ⟨-, -, -, -, hcount, hprogress, -⟩, -⟩ := hframe
  refine ⟨_, hmark.exec_eq, hcount, hprogress, fun hkept => ?_⟩
  have hfenced : b.fencedAt cut = false := by
    obtain h | ⟨h, hidle⟩ | h := hkept
    · rw [State.fencedAt, hcut.mpr h]
      rfl
    · cases hc : cut with
      | true => rfl
      | false => simp [State.fencedAt, State.decidedVoid, hveto, h, hdue hc hidle]
    · have hown : b.own = s.own := by rw [State.own, hloader]
      change holds (b.deliverMark true cut first).alloc.standing.admin.evicted s.own = false at h
      rw [State.deliverMark_alloc, if_pos rfl] at h
      rw [State.fencedAt, hown, h, Bool.and_false]
  have hlimit : b.settings.drainLimit = s.settings.drainLimit := by rw [State.settings, hloader]
  have hemptied : b.drainsByAgeing = true ↔ emptied := by
    rw [hdrains, State.drainsByAgeing_iff]
    exact and_iff_right hst
  have hleaving : b.ctl.station = .leaving := by rw [hctl, hst]
  have hafter := State.ctlAfter_of_leaving hleaving hfenced (first := first)
  have hepochs : satInc 255 s.ctl.drainEpochs = epochs := rfl
  rw [hctl, hlimit, hepochs] at hafter
  simp only [hemptied] at hafter
  have hqueue : b.queueAfter true cut = if s.ctl.awaiting && !cut then s.ctl.queue.tail else s.ctl.queue := by
    rw [State.queueAfter_true, hctl]
  have hsame := Control.completed_station cut s.ctl
  have hstation : (b.deliverMark true cut first).ctl.station = (b.ctlAfter true cut first).station := by
    rw [State.deliverMark_ctl]
  refine ⟨fun hfirst hempty => ?_, fun hnot => ?_, fun hquiet => ?_, fun hstays => ?_⟩
  · rw [if_pos ⟨hfirst, hempty⟩] at hafter
    change (b.deliverMark true cut first).ctl.station = _ ∧ (b.deliverMark true cut first).ctl.drainEpochs = _
    rw [State.deliverMark_ctl, hafter, Control.completed_eq]
    exact ⟨rfl, rfl⟩
  · rw [if_neg hnot] at hafter
    change (b.deliverMark true cut first).ctl.drainEpochs = _ ∧ (b.deliverMark true cut first).ctl.station = _
    rw [State.deliverMark_ctl, hafter]
    split_ifs
    · exact ⟨rfl, rfl⟩
    · exact ⟨rfl, hsame.trans hst⟩
  · obtain ⟨hheld, hempty, hstops, hdrop⟩ := State.deliverMark_of_drained hleaving (hstation.symm.trans hquiet)
    rw [hqueue, hflags _ (by decide)] at hdrop
    refine ⟨hheld, hempty, hstops, fun hqueued => hdrop.trans ?_, fun hnot hawaits => hdrop.trans ?_⟩
    · obtain h | h := hqueued
      · simp [hcut.mpr h]
      · simp [h]
    · have huncut : cut = false := Bool.eq_false_iff.mpr (mt hcut.mp hnot)
      simp [huncut, hawaits]
  · have hsame : (b.ctlAfter true cut first).station = b.ctl.station := by
      rw [hleaving]
      exact hstation.symm.trans hstays
    refine (State.deliverMark_dirDrop ..).trans ?_
    rw [State.outAfter_of_same hsame, hflags _ (by decide), Bool.false_and, Bool.or_false]

end Sys2Proof.Machine

/-! PROOF. REJOIN: the entry to Listening, and what a timer that holds at E_len does there (R21, R22, R37, R107). -/

namespace Sys2Proof.Machine

open Sys2Proof

section
variable (s : State)

theorem State.respond_eq (status : Status) (data : List Byte) : s.respond status data =
    { s with mgmt := { s.mgmt with response := some { status := status, data := data } } } := rfl

/-- The monitors masked, each that is in use (R125). -/
def State.maskedMonitors : Vector Monitor 4 := Vector.ofFn fun t : Fin 4 =>
  if inUse s t then { s.monitors[t] with state := .masked, highCount := 0, lowCount := 0, marks := 0 } else s.monitors[t]

theorem State.enterListening_eq : s.enterListening = { s with
    ctl := { s.ctl with station := .listening, listenCount := 0, streak := 0 }
    sbi := { s.sbi.releaseFor .listening with clashStreak := 0, running := true }
    meter := s.meter.enter .listening
    census := { s.census with peers := Vector.replicate 16 PeerEntry.reset, activeHeard := false }
    monitors := s.maskedMonitors } := rfl

theorem State.maskedMonitors_get (i : Fin 4) : s.maskedMonitors[i] = if i.val < s.plan.targets then
    { s.monitors[i] with state := .masked, highCount := 0, lowCount := 0, marks := 0 } else s.monitors[i] := by
  simp only [State.maskedMonitors, Fin.getElem_fin, Vector.getElem_ofFn, Fin.eta]
  rw [inUse]
  by_cases h : i.val < s.plan.targets <;> simp [h]

theorem entry_of_replicate {c : Census} (h : c.peers = Vector.replicate 16 PeerEntry.reset) (k : StationNo) :
    c.entry k = PeerEntry.reset := by
  simp [Census.entry, h]

/-- Nothing is heard of a cleared Peer Table, so its plan check passes (R91, R92). -/
theorem State.planSplit_of_reset (h : s.census.peers = Vector.replicate 16 PeerEntry.reset) : s.planSplit = [] := by
  rw [List.eq_nil_iff_forall_not_mem]
  rintro ⟨k, side⟩ hmem
  obtain ⟨-, n, hn, -⟩ := State.mem_planSplit.mp hmem
  rw [entry_of_replicate h k] at hn
  cases hn

variable {s}

/-- REJOIN in Quiet where the timer has not reached E_len, or SYNC is free. -/
theorem State.reenterListening_of_free (sync : Level)
    (h : s.sbi.timer < 100 * s.plan.epochLength ∨ s.sbi.faults.syncLow = false) :
    ∃ d, s.reenterListening sync = { s.enterListening with sbi := { s.enterListening.sbi with syncDrive := d } }
      ∧ (100 * s.plan.epochLength ≤ s.sbi.timer → sync = .recessive → d = .attempting) := by
  have hkeeps : s.enterListening.epochBitTimes = 100 * s.plan.epochLength ∧ s.enterListening.sbi.timer = s.sbi.timer
      ∧ s.enterListening.sbi.faults = s.sbi.faults := ⟨State.epochBitTimes_eq _, rfl, rfl⟩
  obtain ⟨hlength, htimer, hfaults⟩ := hkeeps
  unfold State.reenterListening
  dsimp only
  rw [hlength, htimer]
  by_cases hreached : 100 * s.plan.epochLength ≤ s.sbi.timer
  · have hlow : s.enterListening.sbi.faults.syncLow = false := by
      rw [hfaults]
      exact h.resolve_left (by omega)
    rw [if_pos hreached, State.timerExpired, hlow, if_neg (by decide)]
    cases sync with
    | recessive => exact ⟨.attempting, rfl, fun _ _ => rfl⟩
    | dominant => exact ⟨_, rfl, fun _ h => by cases h⟩
  · rw [if_neg hreached]
    exact ⟨_, rfl, fun h => absurd h hreached⟩

/-- REJOIN in Quiet where the timer holds at E_len and SYNC is stuck low: a local mark. -/
theorem State.reenterListening_of_stuck (sync : Level) (hreached : 100 * s.plan.epochLength ≤ s.sbi.timer)
    (hlow : s.sbi.faults.syncLow = true) : s.reenterListening sync = s.enterListening.localMark false := by
  have hlength : s.enterListening.epochBitTimes = 100 * s.plan.epochLength := State.epochBitTimes_eq _
  have htimer : s.enterListening.sbi.timer = s.sbi.timer := rfl
  have hfaults : s.enterListening.sbi.faults = s.sbi.faults := rfl
  unfold State.reenterListening
  dsimp only
  rw [hlength, htimer, if_pos hreached, State.timerExpired, hfaults, if_pos hlow]

/-- The registers after the first local mark of a station that has entered Listening: nothing is heard (R91, R92, R97). -/
theorem State.enterListening_ctlAfter : (s.enterListening.countCut.ctlAfter true true false).station
      = (if s.plan.listenEpochs = 1 then .joining else .listening)
    ∧ (s.enterListening.countCut.ctlAfter true true false).listenCount = 1
    ∧ (s.enterListening.countCut.ctlAfter true true false).streak = 0 := by
  have hctl : s.enterListening.countCut.ctl = { s.ctl with station := .listening, listenCount := 0, streak := 0 } := rfl
  have hplan : s.enterListening.countCut.plan = s.plan := rfl
  have hsplit : s.enterListening.countCut.planSplit = [] := State.planSplit_of_reset _ rfl
  have hpass : planCheck [] = true := rfl
  have hcount : satInc 15 0 = 1 := rfl
  have hafter := State.ctlAfter_of_listening (b := s.enterListening.countCut) (cut := true) (first := false) rfl
  rw [hctl, hplan, hsplit, hpass, if_pos rfl, hcount, Control.completed_eq] at hafter
  rw [hafter]
  by_cases h : s.plan.listenEpochs = 1
  · rw [if_pos h, if_pos h.symm]
    exact ⟨rfl, rfl, rfl⟩
  · rw [if_neg h, if_neg (Ne.symm h)]
    exact ⟨rfl, rfl, rfl⟩

end

/-- Settles O45: the refusal elsewhere, the entry, and the local mark of a stuck SYNC. -/
theorem rejoinEntersListening : Obligations.RejoinEntersListening := by
  intro sync s hreset hboot
  dsimp only
  rw [exec_rejoin_checkedFrame hreset hboot, State.rejoin]
  refine ⟨fun hnot => ?_, fun hquiet hfree => ?_, fun hquiet hreached hlow => ?_⟩
  · rw [if_pos hnot]
    rfl
  · rw [if_neg (not_not.mpr hquiet)]
    obtain ⟨d, hreenter, hdrive⟩ := State.reenterListening_of_free sync hfree
    rw [hreenter]
    refine ⟨_, rfl, rfl, fun k => entry_of_replicate rfl k, rfl, rfl, rfl, rfl, rfl, rfl, rfl, hdrive, fun i => ?_, rfl, rfl,
      rfl, rfl, rfl⟩
    exact s.maskedMonitors_get i
  · rw [if_neg (not_not.mpr hquiet), State.reenterListening_of_stuck sync hreached hlow, State.localMark_eq,
      State.respond_eq]
    have hrestarted := s.enterListening.localSbi_restarted false
    obtain ⟨hseq, hphase, hfaults⟩ := s.enterListening.localSbi_keeps false
    obtain ⟨-, -, hcuts⟩ := State.deliverMark_marks (b := s.enterListening.countCut) (ends := true) (cut := true)
      (first := false)
    obtain ⟨hstation, hlistened, hstreak⟩ := State.enterListening_ctlAfter (s := s)
    have hcensus := s.enterListening.countCut.deliverMark_census true true false
    rw [← State.deliverMark_ctl] at hstation hlistened hstreak
    have hmonitor (i : Fin 4) := s.enterListening.countCut.deliverMark_monitors true true false i
    have halloc : (s.enterListening.countCut.deliverMark true true false).alloc = s.cutAlloc :=
      (State.deliverMark_alloc ..).trans (State.promoted_congr rfl rfl)
    refine ⟨_, rfl, hrestarted.timer, hseq, hphase, hrestarted.clash, hrestarted.running, hfaults, ?_⟩
    dsimp only
    refine ⟨halloc, hstation, hlistened, hstreak, fun k => ?_, ?_, fun i => ?_, hcuts, rfl⟩
    · exact entry_of_replicate (congrArg Census.peers hcensus) k
    · rw [hcensus]
      rfl
    · refine (hmonitor i).trans ?_
      have hactive : (s.enterListening.countCut.ctlAfter true true false).station ≠ .active := by
        rw [← State.deliverMark_ctl, hstation]
        split_ifs <;> decide
      have huse : inUse s.enterListening.countCut i = decide (i.val < s.plan.targets) := rfl
      have hmasked : s.enterListening.countCut.monitors[i] = if i.val < s.plan.targets then
          { s.monitors[i] with state := .masked, highCount := 0, lowCount := 0, marks := 0 } else s.monitors[i] :=
        s.maskedMonitors_get i
      by_cases h : i.val < s.plan.targets
      · rw [huse, if_pos (decide_eq_true h), if_neg (fun ha => hactive ha.2), hmasked, if_pos h, if_pos h, Monitor.mark_eq]
        rfl
      · rw [huse, if_neg (by simpa using h), hmasked, if_neg h, if_neg h]

end Sys2Proof.Machine

/-! PROOF. The settle of a clear epoch, and the allocation while it is in flight or complete (R56, R62, R63, R65, R66, R87,
R120). -/

namespace Sys2Proof.Machine

open Sys2Proof

/-! ### The settle computed -/

section
variable {s : State} {h : Census} {d : DirectiveFrame} {a : Admin}

/-- The allocation that a settle leaves which comes to an Admin Record. -/
def State.settledBy (s : State) (h : Census) (a : Admin) : Alloc :=
  let p : State := { s with census := h }
  { s.alloc with
    pending := some (computedRecord s.plan (p.memberSet a.evicted) (p.guestSet a.evicted)
      (p.pressureSet (p.memberSet a.evicted)) a p.heardDemand)
    pendingVoid := 0, settle := .complete, handOver := none }

theorem exec_settleComplete (hsettle : s.alloc.settle = .inFlight) (hover : s.alloc.handOver = some h)
    (hadmin : ({ s with census := h } : State).pendingAdmin = a) :
    exec .settleComplete s = .next { s.countIgnored h.received with alloc := s.settledBy h a } := by
  have hhanded : s.handedOver = { s with census := h } := by rw [State.handedOver, hover]; rfl
  refine congrArg Host.Outcome.next ((if_pos hsettle).trans ?_)
  rw [State.completeSettle, State.modAlloc, State.countIgnored_alloc, hhanded, State.settledRecord, hadmin]
  rfl

/-- The Admin Record of a settle without a directive, or with one that is ignored (R65, R87, R120). -/
theorem State.pendingAdmin_base (hd : ∀ d, s.census.received = some d → operandInRange s.plan.targets d.kind d.operand = false) :
    s.pendingAdmin = s.census.adopted.getD s.admin := by
  cases hr : s.census.received with
  | none => simp only [State.pendingAdmin, hr]
  | some d => simp only [State.pendingAdmin, hr, hd d hr, Bool.false_eq_true, if_false]

/-- And with one that is applied. -/
theorem State.pendingAdmin_applied (hr : s.census.received = some d)
    (hd : operandInRange s.plan.targets d.kind d.operand = true) :
    s.pendingAdmin = (s.census.adopted.getD s.admin).apply d := by
  simp only [State.pendingAdmin, hr, hd, if_true]

theorem State.countIgnored_applied (hd : operandInRange s.plan.targets d.kind d.operand = true) :
    s.countIgnored (some d) = s := by
  simp only [State.countIgnored, hd, if_true]

theorem State.countIgnored_ignored (hd : operandInRange s.plan.targets d.kind d.operand = false) :
    s.countIgnored (some d) = { s with mgmt := { s.mgmt with
      counters := { s.mgmt.counters with ignoredDirectives := countUp 1 s.mgmt.counters.ignoredDirectives }
      directive := s.mgmt.directive.record { frame := d, seq := s.sbi.seq } } } := by
  simp only [State.countIgnored, hd, Bool.false_eq_true, if_false]
  rfl

theorem Admin.apply_setPercent {t : Fin 4} (hk : d.kind = .setPercent) (ht : operandTarget d.operand = t.val) :
    a.apply d = { a with percents := a.percents.set t (operandPercent d.operand) } := by
  simp only [Admin.apply, hk, ht, t.isLt, dif_pos]

theorem Admin.apply_evict (hk : d.kind = .evict) : a.apply d = { a with evicted := a.evicted ||| d.operand } := by
  simp only [Admin.apply, hk]

theorem Admin.apply_readmit (hk : d.kind = .readmit) : a.apply d = { a with evicted := a.evicted &&& ~~~d.operand } := by
  simp only [Admin.apply, hk]

theorem exec_settleComplete_applied (hsettle : s.alloc.settle = .inFlight) (hover : s.alloc.handOver = some h)
    (hr : h.received = some d) (hd : operandInRange s.plan.targets d.kind d.operand = true)
    (ha : (h.adopted.getD s.admin).apply d = a) :
    exec .settleComplete s = .next { s with alloc := s.settledBy h a } := by
  have hadmin : ({ s with census := h } : State).pendingAdmin = a := 
    (State.pendingAdmin_applied (s := { s with census := h }) hr hd).trans ha
  rw [exec_settleComplete hsettle hover hadmin, hr, State.countIgnored_applied hd]

end

/-! ### The allocation while a settle is in flight or complete -/

/-- The allocation is kept, or its settle is over. -/
def State.KeepsAlloc (s t : State) : Prop := t.alloc = s.alloc ∨ t.alloc.settle = .idle

section
variable {s t : State}

theorem State.promoted_settle (s : State) (cut : Bool) : (s.promoted cut).settle = .idle := by
  unfold State.promoted Alloc.promote
  split <;> rfl

theorem State.localMark_settle (s : State) (first : Bool) : (s.localMark first).alloc.settle = .idle := by
  rw [State.localMark_eq]
  exact (congrArg Alloc.settle (State.deliverMark_alloc ..)).trans (State.promoted_settle _ _)

theorem State.takeTrueMark_keepsAlloc (s : State) (first : Bool) : s.KeepsAlloc (s.takeTrueMark first) := by
  have halloc : (s.takeTrueMark first).alloc =
      if s.sbi.inEpoch then s.beforeTrueMark.promoted s.sbi.cutBy else s.beforeTrueMark.alloc := by
    rw [State.takeTrueMark_eq]
    exact State.deliverMark_alloc ..
  cases hin : s.sbi.inEpoch with
  | true => exact .inr (by rw [halloc, if_pos hin, State.promoted_settle])
  | false =>
    refine .inl ?_
    rw [halloc, if_neg (by rw [hin]; decide)]
    exact s.settleDue_alloc_of_ne (.inr (.inl hin))

theorem State.timerExpired_keepsAlloc (s : State) (sync : Level) (first : Bool) : s.KeepsAlloc (s.timerExpired sync first) := by
  unfold State.timerExpired
  split_ifs
  · exact .inr (s.localMark_settle first)
  · exact .inl rfl
  · exact .inl rfl

theorem State.rejoin_keepsAlloc (s : State) (sync : Level) : s.KeepsAlloc (s.rejoin sync) := by
  have henter : s.KeepsAlloc (s.reenterListening sync) := by
    unfold State.reenterListening
    dsimp only
    split_ifs
    · exact s.enterListening.timerExpired_keepsAlloc sync false
    · exact .inl rfl
  unfold State.rejoin
  split_ifs
  · exact .inl rfl
  · exact henter

/-- What writes the allocation nowhere keeps it, but for a reset and a load, after which no settle is in flight (R12, R61). -/
theorem State.Effect.keepsAlloc (hrest : RestInv s) (h : s.Effect False t) : s.KeepsAlloc t := by
  cases h with
  | reset hreset =>
    obtain ⟨-, -, -, halloc, -⟩ := hreset.blocksReset
    exact .inr (by rw [halloc]; rfl)
  | still => exact .inl rfl
  | serves _ hmoves => exact .inl hmoves.alloc
  | loads g hphase =>
    obtain ⟨-, hblocks⟩ := hrest.blocksReset hphase
    have hload := State.LoadStep.readGranule hblocks hphase (checkGranule g)
    obtain ⟨-, -, halloc, -⟩ := hblocks
    generalize s.readGranule (checkGranule g) = t at hload
    cases hload with
    | reading => exact .inl rfl
    | failed => exact .inl rfl
    | loaded => exact .inr (congrArg Alloc.settle halloc)

theorem State.Reaches.keepsAlloc {M : Prop} (hrest : RestInv s) (h : s.Reaches False M t) : s.KeepsAlloc t :=
  State.Effect.keepsAlloc hrest (h.1 hrest)

/-- No frame writes the allocation but REJOIN's, and RESTART's (R163, R164). -/
theorem State.runCommand_keepsAlloc (hrest : RestInv s) (straps : StationNo) (sync : Level) (c : Command) (p : List Byte) :
    s.KeepsAlloc (State.runCommand straps sync c p s) := by
  cases c with
  | readView => exact (State.Reaches.readView (M := False) s p).keepsAlloc hrest
  | clearEvents => exact (State.Reaches.clearEvents (M := False) s p).keepsAlloc hrest
  | setEventMask => exact (State.Reaches.setEventMask (M := True) trivial s p).keepsAlloc hrest
  | clearCaptures => exact (State.Reaches.clearCaptures (M := False) s p).keepsAlloc hrest
  | clearCounters => exact (State.Reaches.clearCounters (M := False) s).keepsAlloc hrest
  | postDirective => exact (State.Reaches.postDirective (M := False) s p).keepsAlloc hrest
  | depart => exact (State.Reaches.depart (M := False) s p).keepsAlloc hrest
  | rejoin => exact s.rejoin_keepsAlloc sync
  | restart => exact .inr rfl

theorem State.receiveFrame_keepsAlloc (bytes : List Byte) (offByte : Bool) {run : Command → List Byte → State → State}
    (hrun : ∀ c p, s.KeepsAlloc (run c p s)) : s.KeepsAlloc (s.receiveFrame bytes offByte run) := by
  obtain h | ⟨status, h⟩ | ⟨c, p, h⟩ := s.receiveFrame_cases bytes offByte run <;> rw [h]
  · exact .inl rfl
  · exact .inl rfl
  · exact hrun c p

/-- Every command but the start and the end of a settle keeps the allocation, or leaves no settle in flight (R62, R73, R77). -/
theorem exec_keepsAlloc {c : Instr} (hrest : RestInv s) (hexec : exec c s = .next t) (hstart : c ≠ .settleStart)
    (hcomplete : c ≠ .settleComplete) : s.KeepsAlloc t := by
  by_cases hwrites : writesAlloc c
  · cases c with
    | epochTimerExpiry sync first =>
      obtain rfl := Host.Outcome.next.inj hexec
      split_ifs
      · exact (s.advanceTo s.epochBitTimes).timerExpired_keepsAlloc sync first
      · exact .inl rfl
    | syncHighFault first =>
      obtain rfl := Host.Outcome.next.inj hexec
      split_ifs
      · exact .inr (State.localMark_settle _ first)
      · exact .inl rfl
    | trueMark time first =>
      obtain rfl := Host.Outcome.next.inj hexec
      split_ifs
      · exact (s.advanceTo time).takeTrueMark_keepsAlloc first
      · exact .inl rfl
    | settleStart => exact absurd rfl hstart
    | settleComplete => exact absurd rfl hcomplete
    | rejoin sync f =>
      obtain rfl := Host.Outcome.next.inj hexec
      exact State.receiveFrame_keepsAlloc _ _ fun _ _ => s.rejoin_keepsAlloc sync
    | unknownCommand straps sync f =>
      obtain rfl := Host.Outcome.next.inj hexec
      exact State.receiveFrame_keepsAlloc _ _ fun c p => State.runCommand_keepsAlloc hrest straps sync c p
    | _ => exact hwrites.elim
  · have heffect := exec_effect hrest hexec
    rw [eq_false hwrites] at heffect
    exact heffect.keepsAlloc hrest

end

/-- Settles O36: the Admin Record that the settle comes to, and what leaves the allocation alone until it ends. -/
theorem settleComputesThePendingRecord : Obligations.SettleComputesThePendingRecord := by
  refine ⟨fun h s hsettle hover => ?_, fun c s t hrest hexec hbusy hsame => ?_⟩
  · intro p base computed
    refine ⟨fun hr => ?_, fun d hr => ⟨fun t hk ht htargets hpercent => ?_, fun hk hout => ?_, fun hk => ?_, fun hk => ?_⟩⟩
    · have hadmin : p.pendingAdmin = base := State.pendingAdmin_base fun d hd => by
        cases hr.symm.trans hd
      rw [exec_settleComplete hsettle hover hadmin, hr]
      rfl
    · refine exec_settleComplete_applied hsettle hover hr ?_ (Admin.apply_setPercent hk ht)
      simp only [operandInRange, hk, ht, htargets, hpercent, decide_true, Bool.and_self]
    · have hignored : operandInRange s.plan.targets d.kind d.operand = false := by
        simp only [operandInRange, hk, Bool.and_eq_false_iff, decide_eq_false_iff_not, not_lt, not_le]
        exact hout
      have hadmin : p.pendingAdmin = base := State.pendingAdmin_base fun d' hd => by
        obtain rfl : d = d' := Option.some.inj (hr.symm.trans hd)
        exact hignored
      rw [exec_settleComplete hsettle hover hadmin, hr, State.countIgnored_ignored hignored]
      rfl
    · exact exec_settleComplete_applied hsettle hover hr (by rw [hk]; rfl) (Admin.apply_evict hk)
    · exact exec_settleComplete_applied hsettle hover hr (by rw [hk]; rfl) (Admin.apply_readmit hk)
  · have hkeeps (h : s.KeepsAlloc t) : t.alloc = s.alloc := h.resolve_right fun hidle => hbusy (hsame.symm.trans hidle)
    by_cases hstart : c = .settleStart
    · subst hstart
      obtain rfl := Host.Outcome.next.inj hexec
      rw [if_neg (by simp [hbusy])]
    · by_cases hcomplete : c = .settleComplete
      · subst hcomplete
        obtain rfl := Host.Outcome.next.inj hexec
        split_ifs at hsame ⊢ with hflight
        · rw [hflight] at hsame
          cases hsame
        · rfl
      · exact hkeeps (exec_keepsAlloc hrest hexec hstart hcomplete)

end Sys2Proof.Machine

/-! PROOF. The sets and demands of a settle, the grant places of a plan, and the fields of a record (R5, R6, R54 to R56, R60,
R64, R66, R72, R76). -/

namespace Sys2Proof.Machine

open Sys2Proof

/-! ### Sets of stations and of targets -/

theorem allStations_get (k : StationNo) : allStations[k.toNat]? = some k := by
  revert k
  decide

theorem holds_maskOf (p : StationNo → Bool) (k : StationNo) : holds (maskOf p) k = p k := by
  refine BitVec.getLsbD_ofBoolListLE.trans ?_
  rw [List.getD_eq_getElem?_getD, List.getElem?_map, allStations_get]
  rfl

theorem getLsbD_targetSetOf (p : Fin 4 → Bool) (t : Fin 4) : (targetSetOf p).getLsbD t.val = p t := by
  refine BitVec.getLsbD_ofBoolListLE.trans ?_
  have ht : allTargets[t.val]? = some t := by
    revert t
    decide
  rw [List.getD_eq_getElem?_getD, List.getElem?_map, ht]
  rfl

section
variable {s : State} {evicted : StationMask} {k : StationNo}

theorem PeerEntry.inStep_iff {e : PeerEntry} {digest : Digest} :
    e.inStep digest = true ↔ ∃ n, e.contents = some n ∧ n.planDigest = digest ∧ n.seq = e.lastHeard := by
  unfold PeerEntry.inStep
  cases e.contents <;> simp

theorem NoticeStatus.serving_iff {st : NoticeStatus} : st.serving = true ↔ st = .active ∨ st = .leaving := by
  cases st <;> simp [NoticeStatus.serving]

theorem PeerEntry.serves_iff {e : PeerEntry} :
    e.status.any NoticeStatus.serving = true ↔ e.status = some .active ∨ e.status = some .leaving := by
  rw [Option.any_eq_true]
  simp only [NoticeStatus.serving_iff]
  constructor
  · rintro ⟨st, h, rfl | rfl⟩
    · exact .inl h
    · exact .inr h
  · rintro (h | h)
    · exact ⟨_, h, .inl rfl⟩
    · exact ⟨_, h, .inr rfl⟩

/-- An entry that counts: of the own plan, in step, and not evicted (R54, R55). -/
theorem PeerEntry.counted_iff {e : PeerEntry} {digest : Digest} : (e.inStep digest = true ∧ holds evicted k = false) ↔
    ∃ n, e.contents = some n ∧ n.planDigest = digest ∧ n.seq = e.lastHeard ∧ holds evicted k = false := by
  rw [PeerEntry.inStep_iff]
  constructor
  · rintro ⟨⟨n, hn, hplan, hseq⟩, hevicted⟩
    exact ⟨n, hn, hplan, hseq, hevicted⟩
  · rintro ⟨n, hn, hplan, hseq, hevicted⟩
    exact ⟨⟨n, hn, hplan, hseq⟩, hevicted⟩

theorem State.mem_memberSet : holds (s.memberSet evicted) k = true ↔
    ((holds s.census.heard k = true ∧ ((s.census.entry k).status = some .active ∨ (s.census.entry k).status = some .leaving))
        ∨ (s.census.entry k).state = .held)
      ∧ ∃ n, (s.census.entry k).contents = some n ∧ n.planDigest = s.loader.planDigest
        ∧ n.seq = (s.census.entry k).lastHeard ∧ holds evicted k = false := by
  rw [State.memberSet, holds_maskOf, State.isMember, ← PeerEntry.counted_iff]
  simp only [Bool.and_eq_true, Bool.or_eq_true, beq_iff_eq, Bool.not_eq_true', PeerEntry.serves_iff, and_assoc]

theorem State.mem_guestSet : holds (s.guestSet evicted) k = true ↔
    holds s.census.heard k = true
      ∧ ((s.census.entry k).status = some .joining ∨ (s.census.entry k).status = some .resync)
      ∧ ∃ n, (s.census.entry k).contents = some n ∧ n.planDigest = s.loader.planDigest
        ∧ n.seq = (s.census.entry k).lastHeard ∧ holds evicted k = false := by
  rw [State.guestSet, holds_maskOf, State.isGuest, ← PeerEntry.counted_iff]
  simp only [Bool.and_eq_true, Bool.or_eq_true, beq_iff_eq, Bool.not_eq_true', and_assoc]

theorem State.mem_pressureSet {members : StationMask} {t : Fin 4} : (s.pressureSet members).getLsbD t.val = true ↔
    t.val < s.plan.targets ∧ ∃ k n, holds members k = true ∧ (s.census.entry k).contents = some n
      ∧ n.pressure.getLsbD t.val = true := by
  rw [State.pressureSet, getLsbD_targetSetOf, inUse]
  simp only [Bool.and_eq_true, decide_eq_true_eq, List.any_eq_true, mem_allStations, true_and, Option.any_eq_true]
  refine and_congr_right fun _ => exists_congr fun k => ?_
  constructor
  · rintro ⟨hmember, n, hn, hpressed⟩
    exact ⟨n, hmember, hn, hpressed⟩
  · rintro ⟨n, hmember, hn, hpressed⟩
    exact ⟨hmember, n, hn, hpressed⟩

end

/-! ### The grant places of a plan -/

/-- The places of an entry whose tier is `tier` (R5). -/
def PlanEntry.placesIn (e : PlanEntry) (tier : Nat) : List GrantPlace :=
  e.stations.map fun k =>
    { station := k, target := e.target, cls := e.cls, weight := e.weight, floor := e.floor, ceiling := e.ceiling
      reserve := e.reserve, tier := tier }

/-- How many tiers of a target are closed by a list of entries (R6). -/
def closedBy (es : List PlanEntry) (t : Fin 4) : Nat := (es.filter fun e => e.target == t && e.tierEnd).length

theorem closed_set {closed : Vector Nat 4} {e : PlanEntry} {es : List PlanEntry} {t : Fin 4} :
    (if e.tierEnd then closed.set e.target (closed[e.target] + 1) else closed)[t] + closedBy es t =
      closed[t] + closedBy (e :: es) t := by
  by_cases hend : e.tierEnd = true
  · by_cases ht : e.target = t
    · subst ht
      simp [closedBy, hend, Nat.add_assoc, Nat.add_comm 1]
    · have hne : e.target.val ≠ t.val := fun h => ht (Fin.ext h)
      simp [closedBy, hend, ht, hne]
  · simp [closedBy, hend]

/-- Each entry's places, its tier counted from the entries before it. -/
theorem expandEntries_eq (closed : Vector Nat 4) (es : List PlanEntry) : expandEntries closed es =
    (List.range es.length).flatMap fun i =>
      es[i]?.elim [] fun e => e.placesIn (closed[e.target] + closedBy (es.take i) e.target) := by
  induction es generalizing closed with
  | nil => rfl
  | cons e es ih =>
    rw [expandEntries, List.length_cons, List.range_succ_eq_map, List.flatMap_cons, List.flatMap_map, ih]
    refine congrArg₂ _ rfl (List.flatMap_congr fun i _ => ?_)
    rw [List.getElem?_cons_succ, List.take_succ_cons]
    refine congrArg (es[i]?.elim []) (funext fun x => ?_)
    rw [closed_set]

theorem effectiveCapacities_get {plan : Plan} {t : Fin 4} (admin : Admin) (pressure : TargetSet) (ht : t.val < plan.targets) :
    (effectiveCapacities plan admin pressure)[t] = plan.capacity[t] * admin.percents[t]
      * (if pressure.getLsbD t.val then plan.pressedPercent[t] else 100) / 10000 := by
  simp only [effectiveCapacities, Fin.getElem_fin, Vector.getElem_ofFn, if_pos ht]
  rfl

theorem allocationDigest_eq (grants : List Nat) (a : Admin) :
    allocationDigest grants a = digestOf (grants.flatMap nat16 ++ a.percents.toList.map byte ++ bytes16 a.evicted) := by
  rw [List.append_assoc]
  rfl

/-- Settles O37: the sets by their members, the places by their entries, and the records by their fields. -/
theorem membersGuestsAndCapacities : Obligations.MembersGuestsAndCapacities := by
  refine ⟨fun s evicted k => ⟨State.mem_memberSet, State.mem_guestSet, fun q => ⟨fun hn => ?_, fun n hn => ?_⟩⟩,
    fun s members t => State.mem_pressureSet, fun members guests k => rfl, fun plan => ?_,
    fun plan members guests pressure a demand =>
      ⟨fun t => effectiveCapacities_get a pressure, rfl, rfl, rfl, rfl, rfl, rfl, allocationDigest_eq _ a⟩,
    fun plan r =>
      ⟨fun t => effectiveCapacities_get r.admin r.pressure, rfl, rfl, rfl, rfl, rfl, rfl, allocationDigest_eq _ r.admin⟩⟩
  · simp only [State.heardDemand, hn]
  · simp only [State.heardDemand, hn]
  · rw [Plan.places, expandEntries_eq]
    refine List.flatMap_congr fun i _ => ?_
    cases plan.entries[i]? with
    | none => rfl
    | some e =>
      have hnone : (Vector.replicate 4 0)[e.target] = 0 := by simp
      change e.placesIn ((Vector.replicate 4 0)[e.target] + closedBy (plan.entries.take i) e.target) = _
      rw [hnone, Nat.zero_add]
      obtain ⟨station, -⟩ := e
      cases station <;> rfl

end Sys2Proof.Machine

/-! PROOF. The stall, the watch of VETO, the veto window, and the start of the settle of a vetoed epoch (R32, R33, R36, R38,
R39, R41, R75, R80). -/

namespace Sys2Proof.Machine

open Sys2Proof

/-! ### Time and line faults -/

section
variable (s : State) (time : Nat)

/-- Time moves the timer and the phase position of the SBI, and nothing else of it. -/
theorem State.advanceTo_sbi : (s.advanceTo time).sbi =
    { s.sbi with timer := (s.advanceTo time).sbi.timer, phase := (s.advanceTo time).sbi.phase } := by
  simp only [State.advanceTo, State.passTime_sbi, Sbi.passTime]
  split_ifs <;> rfl

@[simp] theorem State.advanceTo_faults : (s.advanceTo time).sbi.faults = s.sbi.faults := by rw [State.advanceTo_sbi]
@[simp] theorem State.advanceTo_seq : (s.advanceTo time).sbi.seq = s.sbi.seq := by rw [State.advanceTo_sbi]
@[simp] theorem State.advanceTo_txBuffer : (s.advanceTo time).sbi.txBuffer = s.sbi.txBuffer := by rw [State.advanceTo_sbi]
@[simp] theorem State.advanceTo_readback : (s.advanceTo time).sbi.readback = s.sbi.readback := by rw [State.advanceTo_sbi]
@[simp] theorem State.advanceTo_vetoed : (s.advanceTo time).sbi.vetoed = s.sbi.vetoed := by rw [State.advanceTo_sbi]
@[simp] theorem State.advanceTo_clashStreak : (s.advanceTo time).sbi.clashStreak = s.sbi.clashStreak := by
  rw [State.advanceTo_sbi]

/-- A line-fault state that has no fault another has not. -/
theorem LineFaults.any_mono {f g : LineFaults} (hlow : f.syncLow = true → g.syncLow = true)
    (hhigh : f.syncHigh = true → g.syncHigh = true) (hveto : f.vetoLow = true → g.vetoLow = true)
    (hsdat : f.sdatLow = true → g.sdatLow = true) : f.any = true → g.any = true := by
  simp only [LineFaults.any, Bool.or_eq_true]
  exact Or.imp (Or.imp (Or.imp hlow hhigh) hveto) hsdat

variable {s} {f : LineFaults → LineFaults}

/-- A fault that begins or holds: LINE is set when no fault held before (R41). -/
theorem State.modFaults_of_fault (h : (f s.sbi.faults).any = true) : s.modFaults f = { s with
    sbi := { s.sbi with faults := f s.sbi.faults }
    mgmt := { s.mgmt with flags := if s.sbi.faults.any then s.mgmt.flags else s.mgmt.flags ||| eventBit .line } } := by
  rw [State.modFaults, State.setFaults_eq, h]
  cases s.sbi.faults.any <;> rfl

/-- Where faults only end no flag is set. -/
theorem State.modFaults_of_ends (h : (f s.sbi.faults).any = true → s.sbi.faults.any = true) :
    s.modFaults f = { s with sbi := { s.sbi with faults := f s.sbi.faults } } := by
  have hline : (!s.sbi.faults.any && (f s.sbi.faults).any) = false := by
    cases hf : (f s.sbi.faults).any with
    | true => rw [h hf]; rfl
    | false => rw [Bool.and_false]
  rw [State.modFaults, State.setFaults_eq, hline]
  rfl

end

/-! ### Guards of the commands that the bus brings -/

theorem guard_true {st : StationState} {p : Phase} {n : Nat} (ho : observes st = true) (hp : p.rank ≤ n) :
    (observes st && decide (p.rank ≤ n)) = true := by
  rw [ho, decide_eq_true hp, Bool.and_self]

/-- Settles O21: the begin of the stall, and its end. -/
theorem stallBeginsAndEnds : Obligations.StallBeginsAndEnds := by
  refine ⟨fun s ho hlow => ?_, fun time s hlow => ?_⟩
  · have hguard : (observes s.ctl.station && !s.sbi.faults.syncLow) = true := by rw [ho, hlow]; rfl
    refine congrArg Host.Outcome.next ((if_pos hguard).trans ?_)
    change (s.advanceTo 1001).beginStall = _
    rw [State.beginStall, State.modFaults_of_fault (by simp [LineFaults.any]), State.advanceTo_faults, State.advanceTo_seq]
    rfl
  · refine congrArg Host.Outcome.next ((if_pos hlow).trans ?_)
    rw [State.endStall, State.modFaults_of_ends (by simp [LineFaults.any, hlow]), State.advanceTo_faults]
    rfl

/-- Settles O31: the drive of VETO, and its sample. -/
theorem vetoIsDrivenAndSampled : Obligations.VetoIsDrivenAndSampled := by
  refine ⟨fun s ho hphase hasked => ?_, fun s ho hphase => ⟨?_, ?_⟩⟩
  · have hguard : (observes s.ctl.station && decide (s.sbi.phase.rank ≤ 18) && !s.sbi.vetoAsked) = true := by
      rw [guard_true ho hphase, hasked]
      rfl
    exact congrArg Host.Outcome.next (if_pos hguard)
  · exact congrArg Host.Outcome.next (if_pos (by rw [ho, hphase]; rfl))
  · exact congrArg Host.Outcome.next (if_pos (by rw [ho, hphase]; rfl))

/-- Settles O32: the begin of the fault outside the veto window, and its end. -/
theorem vetoLowBeginsAndEnds : Obligations.VetoLowBeginsAndEnds := by
  intro time s ho htime
  have houtside : outsideVetoWindow time = true := by
    rw [outsideVetoWindow, Bool.or_eq_true, decide_eq_true_iff, decide_eq_true_iff]
    exact htime
  refine ⟨fun hlow => ?_, ?_⟩
  · have hguard : (observes s.ctl.station && outsideVetoWindow time && !s.sbi.faults.vetoLow) = true := by
      rw [ho, houtside, hlow]
      rfl
    refine congrArg Host.Outcome.next ((if_pos hguard).trans ?_)
    rw [State.modFaults_of_fault (by simp [LineFaults.any]), State.advanceTo_faults]
    rfl
  · have hguard : (observes s.ctl.station && outsideVetoWindow time) = true := by rw [ho, houtside]; rfl
    refine congrArg Host.Outcome.next ((if_pos hguard).trans ?_)
    exact (State.modFaults_of_ends (LineFaults.any_mono id id (fun h => by cases h) id)).trans
      (by rw [State.advanceTo_faults])

/-- The guard of the close of the veto window. -/
theorem exec_settleStart {s : State} (ho : observes s.ctl.station = true) (hphase : s.sbi.phase.rank ≤ 18)
    (hidle : s.alloc.settle = .idle) : exec .settleStart s = .next
      (((s.advanceTo 7100).modSbi fun b => { b with phase := .settle, vetoDrive := false }).startSettle) := by
  have hguard : (observes s.ctl.station && decide (s.sbi.phase.rank ≤ 18) && s.alloc.settle == .idle) = true := by
    rw [guard_true ho hphase, hidle]
    rfl
  exact congrArg Host.Outcome.next (if_pos hguard)

/-- Settles O33: the void record pending at once. -/
theorem vetoedEpochIsVoidAtOnce : Obligations.VetoedEpochIsVoidAtOnce := by
  intro s ho hphase hidle hvetoed
  have hveto : ((s.advanceTo 7100).modSbi fun b => { b with phase := .settle, vetoDrive := false }).sbi.vetoed = true :=
    (s.advanceTo_vetoed 7100).trans hvetoed
  rw [exec_settleStart ho hphase hidle]
  exact congrArg Host.Outcome.next (if_pos hveto)

end Sys2Proof.Machine

/-! PROOF. The tally at the close of the veto window (R56, R62, R83 to R90). -/

namespace Sys2Proof.Machine

open Sys2Proof

section
variable {s : State} {k : StationNo} {n : Notice}

/-! ### The participants -/

theorem State.participates_iff : s.participates n = true ↔
    (n.status = .active ∨ n.status = .leaving) ∧ n.planDigest = s.loader.planDigest := by
  rw [State.participates, Bool.and_eq_true, NoticeStatus.serving_iff, beq_iff_eq]

theorem State.mem_participants : (k, n) ∈ s.participants ↔
    holds s.census.heard k = true ∧ (s.census.entry k).contents = some n
      ∧ (n.status = .active ∨ n.status = .leaving) ∧ n.planDigest = s.loader.planDigest := by
  rw [← State.participates_iff, ← and_assoc, ← State.heardNotice_eq_some_iff]
  unfold State.participants
  simp only [List.mem_filterMap, mem_allStations, true_and]
  constructor
  · rintro ⟨j, hj⟩
    split at hj
    · split_ifs at hj with hparticipates
      cases hj
      exact ⟨‹_›, hparticipates⟩
    · cases hj
  · rintro ⟨hheard, hparticipates⟩
    exact ⟨k, by simp [hheard, hparticipates]⟩

theorem State.participants_pairwise : s.participants.Pairwise fun p q => p.1.toNat < q.1.toNat := by
  refine pairwise_of_stations _ fun k p hp => ?_
  split at hp
  · split_ifs at hp
    cases hp
    rfl
  · cases hp

/-! ### The tally by the state -/

variable {own m : Notice}

theorem State.tally_verdict (h : s.ctl.station = .active ∨ s.ctl.station = .leaving) :
    s.tally = s.verdict s.participants := by
  obtain h | h := h <;> simp only [State.tally, h]

theorem State.tally_outcome (h : s.ctl.station = .joining ∨ s.ctl.station = .resync) :
    s.tally = s.outcome s.participants := by
  obtain h | h := h <;> simp only [State.tally, h]

theorem State.tally_listening_none (h : s.ctl.station = .listening) (hnone : majority s.participants = none) :
    s.tally = s := by
  simp only [State.tally, h, hnone]

theorem State.tally_listening_some (h : s.ctl.station = .listening) (hsome : majority s.participants = some (k, m)) :
    s.tally = s.adopt m := by
  simp only [State.tally, h, hsome]

theorem State.tally_none (h : s.ctl.station = .quiet ∨ s.ctl.station = .fenced ∨ s.ctl.station = .excluded) :
    s.tally = s := by
  obtain h | h | h := h <;> simp only [State.tally, h]

theorem State.verdict_unsent (ps : List (StationNo × Notice)) (h : s.census.ownSent = false) : s.verdict ps = s := by
  rw [State.verdict, if_pos h]

theorem State.verdict_sent {ps : List (StationNo × Notice)} (hsent : s.census.ownSent = true)
    (hown : (s.census.entry s.own).contents = some own) (hmajority : majority ps = some (k, m)) :
    s.verdict ps = if ps.all fun p => p.1 == s.own then s.setResult .lone
      else if own.pair = m.pair then s.setResult .agree else s.minorityVerdict own m ps := by
  rw [State.verdict, if_neg (by rw [hsent]; decide)]
  simp only [hown, hmajority]

theorem State.outcome_none {ps : List (StationNo × Notice)} (h : majority ps = none) : s.outcome ps = s.setResult .lone := by
  simp only [State.outcome, h]

theorem State.outcome_some {ps : List (StationNo × Notice)} (h : majority ps = some (k, m)) : s.outcome ps =
    if m.pair = (s.sbi.seq, s.alloc.standing.digest) then s.setResult .match else (s.adopt m).setResult .mismatch := by
  simp only [State.outcome, h]

end

section
variable (s : State)

/-- The state at the close of the veto window, as the tally finds it. -/
def State.vetoClosed : State := (s.advanceTo 7100).modSbi fun b => { b with phase := .settle, vetoDrive := false }

theorem State.vetoClosed_seq : s.vetoClosed.sbi.seq = s.sbi.seq := s.advanceTo_seq 7100

/-- What the close hands to the settle, once the tally has left this census and this sequence. -/
def State.handedBy (c : Census) (seq : Seq) : State :=
  { s.vetoClosed with
    sbi := { s.vetoClosed.sbi with seq := seq }
    census := c
    alloc := { s.alloc with settle := .inFlight, handOver := some c } }

theorem State.vetoClosed_handed : s.vetoClosed.handToSettle = s.handedBy s.census s.sbi.seq := by
  rw [← s.vetoClosed_seq]
  rfl

theorem State.vetoClosed_result (r : TallyResult) :
    (s.vetoClosed.setResult r).handToSettle = s.handedBy { s.census with result := some r } s.sbi.seq := by
  rw [← s.vetoClosed_seq]
  rfl

theorem State.vetoClosed_minority (own m : Notice) (ps : List (StationNo × Notice)) :
    (s.vetoClosed.minorityVerdict own m ps).handToSettle =
      { s.handedBy { s.census with result := some .minority } s.sbi.seq with
        mgmt := { s.mgmt with
          flags := s.mgmt.flags ||| eventBit .minority
          agreement := s.mgmt.agreement.record
            { seq := own.seq, own := own.standingDigest, majority := m.standingDigest
              groupSize := groupSize ps m.pair, participants := ps.length } } } := by
  rw [← s.vetoClosed_seq]
  rfl

variable {s}

theorem exec_settleStart_clear (ho : observes s.ctl.station = true) (hphase : s.sbi.phase.rank ≤ 18)
    (hidle : s.alloc.settle = .idle) (hclear : s.sbi.vetoed = false) :
    exec .settleStart s = .next s.vetoClosed.tally.handToSettle := by
  have hveto : s.vetoClosed.sbi.vetoed = false := (s.advanceTo_vetoed 7100).trans hclear
  rw [exec_settleStart ho hphase hidle]
  exact congrArg Host.Outcome.next (if_neg fun h => Bool.false_ne_true (hveto.symm.trans h))

end

/-- Settles O34: what the tally comes to in each state, and the participants. -/
theorem clearEpochRunsTheTally : Obligations.ClearEpochRunsTheTally := by
  refine ⟨fun s ho hphase hidle hclear => ?_, fun s k n => State.mem_participants, fun s => State.participants_pairwise⟩
  rw [exec_settleStart_clear ho hphase hidle hclear]
  refine ⟨fun own k m hst hsent hown hmajority => ?_, fun hst hunsent => ?_, fun hst => ⟨fun hnone => ?_, fun k m hsome => ?_⟩,
    fun hst => ⟨fun hnone => ?_, fun k m hsome => ?_⟩, fun hst => ?_⟩
  · have hverdict : s.vetoClosed.tally = if s.participants.all fun p => p.1 == s.own then s.vetoClosed.setResult .lone
        else if own.pair = m.pair then s.vetoClosed.setResult .agree
        else s.vetoClosed.minorityVerdict own m s.participants :=
      (State.tally_verdict (s := s.vetoClosed) hst).trans (State.verdict_sent (s := s.vetoClosed) hsent hown hmajority)
    rw [hverdict]
    refine ⟨fun hlone => ?_, fun hothers hagree => ?_, fun hothers hdiffer => ?_⟩
    · rw [if_pos (List.all_eq_true.mpr fun p hp => beq_iff_eq.mpr (hlone p hp))]
      exact congrArg _ (s.vetoClosed_result .lone)
    all_goals
      have hnot : ¬ (s.participants.all fun p => p.1 == s.own) = true := by
        rw [List.all_eq_true]
        obtain ⟨p, hp, hne⟩ := hothers
        exact fun hall => hne (beq_iff_eq.mp (hall p hp))
    · rw [if_neg hnot, if_pos hagree]
      exact congrArg _ (s.vetoClosed_result .agree)
    · rw [if_neg hnot, if_neg hdiffer]
      exact congrArg _ (s.vetoClosed_minority own m s.participants)
  · have htally : s.vetoClosed.tally = s.vetoClosed :=
      (State.tally_verdict (s := s.vetoClosed) hst).trans (State.verdict_unsent _ hunsent)
    rw [htally]
    exact congrArg _ s.vetoClosed_handed
  · have htally : s.vetoClosed.tally = s.vetoClosed.setResult .lone :=
      (State.tally_outcome (s := s.vetoClosed) hst).trans (State.outcome_none hnone)
    rw [htally]
    exact congrArg _ (s.vetoClosed_result .lone)
  · have htally : s.vetoClosed.tally = if m.pair = (s.vetoClosed.sbi.seq, s.alloc.standing.digest) then
        s.vetoClosed.setResult .match else (s.vetoClosed.adopt m).setResult .mismatch :=
      (State.tally_outcome (s := s.vetoClosed) hst).trans (State.outcome_some hsome)
    rw [htally, s.vetoClosed_seq]
    refine ⟨fun hmatch => ?_, fun hmismatch => ?_⟩
    · rw [if_pos hmatch]
      exact congrArg _ (s.vetoClosed_result .match)
    · rw [if_neg hmismatch]
      rfl
  · rw [State.tally_listening_none (s := s.vetoClosed) hst hnone]
    exact congrArg _ s.vetoClosed_handed
  · rw [State.tally_listening_some (s := s.vetoClosed) hst hsome]
    rfl
  · rw [State.tally_none (s := s.vetoClosed) hst]
    exact congrArg _ s.vetoClosed_handed

end Sys2Proof.Machine

/-! PROOF. Rows of bits and the samples of SDAT (R26, R27, R31, R172): a frame put on the line between its lead and its tail is
what the samples are classified as. -/

namespace Sys2Proof.Machine

open Sys2Proof

/-! ### Bits in a row, the first the most significant -/

section
variable {w : Nat} {bits : List Bool}

theorem ofBits_getMsbD (h : bits.length = w) (i : Nat) : (ofBits w bits).getMsbD i = bits.getD i false := by
  by_cases hi : i < w
  · rw [BitVec.getMsbD_eq_getLsbD, ofBits_getLsbD _ _ (by omega), decide_eq_true hi, Bool.true_and,
      List.getD_eq_getElem?_getD, List.getD_eq_getElem?_getD, List.getElem?_reverse (by omega)]
    congr 2
    omega
  · rw [BitVec.getMsbD_eq_getLsbD, decide_eq_false hi, Bool.false_and, List.getD_eq_default _ _ (by omega)]

theorem length_bitsOf (x : BitVec w) : (bitsOf x).length = w := by simp [bitsOf]

theorem ofBits_bitsOf (x : BitVec w) : ofBits w (bitsOf x) = x := by
  refine BitVec.eq_of_getMsbD_eq fun i hi => ?_
  rw [ofBits_getMsbD (length_bitsOf x), bitsOf]
  simp [List.getD_eq_getElem?_getD, hi]

theorem bitsOf_getD (x : BitVec w) {i : Nat} (hi : i < w) (b : Bool) : (bitsOf x).getD i b = x.getMsbD i := by
  rw [bitsOf]
  simp [List.getD_eq_getElem?_getD, hi]

end

/-- The bits of a field, counted from the front of the whole. -/
theorem getMsbD_extract {w lo n i : Nat} {x : BitVec w} (h : lo + n ≤ w) (hi : i < n) :
    (x.extractLsb' lo n).getMsbD i = x.getMsbD (w - lo - n + i) := by
  rw [BitVec.getMsbD_extractLsb', decide_eq_true hi, decide_eq_true (by omega), Bool.true_and, Bool.true_and]
  congr 1
  omega

/-! ### The samples of a frame -/

section
variable {bits : List Bool} (h : bits.length ≤ 379)
include h

theorem samplesOf_getMsbD (i : Nat) : (samplesOf bits).getMsbD i =
    (List.replicate 20 true ++ false :: bits ++ List.replicate (379 - bits.length) true).getD i false := by
  refine ofBits_getMsbD ?_ i
  simp only [List.length_append, List.length_replicate, List.length_cons]
  omega

theorem samplesOf_lead {i : Nat} (hi : i < 20) : (samplesOf bits).getMsbD i = true := by
  rw [samplesOf_getMsbD h, List.append_assoc, List.getD_append _ _ _ _ (by simpa using hi), List.getD_eq_getElem?_getD,
    List.getElem?_replicate_of_lt hi]
  rfl

theorem samplesOf_start : (samplesOf bits).getMsbD 20 = false := by
  rw [samplesOf_getMsbD h, List.append_assoc, List.getD_append_right _ _ _ _ (by simp)]
  rfl

theorem samplesOf_frame {i : Nat} (hi : i < bits.length) : (samplesOf bits).getMsbD (21 + i) = bits.getD i false := by
  rw [samplesOf_getMsbD h, List.append_assoc, List.getD_append_right _ _ _ _ (by simp; omega),
    show 21 + i - (List.replicate 20 true).length = i + 1 by simp; omega, List.cons_append, List.getD_cons_succ,
    List.getD_append _ _ _ _ hi]

theorem samplesOf_tail {i : Nat} (hi : 21 + bits.length ≤ i) (hi' : i < 400) : (samplesOf bits).getMsbD i = true := by
  rw [samplesOf_getMsbD h, List.getD_append_right _ _ _ _ (by simp; omega)]
  simp only [List.length_append, List.length_replicate, List.length_cons, List.getD_eq_getElem?_getD]
  rw [List.getElem?_replicate_of_lt (by omega)]
  rfl

end

/-! ### Classification -/

/-- Samples whose lead and tail are recessive and whose start bit is dominant, around a frame of `n` bits (R27, R31). -/
def framedAs (n : Nat) (samples : BitVec 400) : Prop :=
  (∀ i, i < 20 ∨ (21 + n ≤ i ∧ i < 400) → samples.getMsbD i = true) ∧ samples.getMsbD 20 = false

theorem framedAs_samplesOf {bits : List Bool} (h : bits.length ≤ 379) : framedAs bits.length (samplesOf bits) :=
  ⟨fun _ hi => hi.elim (samplesOf_lead h) fun ⟨hlo, hhi⟩ => samplesOf_tail h hlo hhi, samplesOf_start h⟩

section
variable {samples : BitVec 400}

theorem extract_eq_allOnes_iff {lo n : Nat} (hn : lo + n ≤ 400) : (samples.extractLsb' lo n == BitVec.allOnes n) = true ↔
    ∀ i, 400 - lo - n ≤ i ∧ i < 400 - lo → samples.getMsbD i = true := by
  rw [beq_iff_eq]
  constructor
  · rintro h i ⟨hlo, hhi⟩
    have hbit := congrArg (fun x => x.getLsbD (399 - lo - i)) h
    simp only [BitVec.getLsbD_extractLsb', BitVec.getLsbD_allOnes] at hbit
    rw [decide_eq_true (by omega), Bool.true_and] at hbit
    rw [BitVec.getMsbD_eq_getLsbD, decide_eq_true (by omega), Bool.true_and, ← hbit]
    congr 1
    omega
  · intro h
    refine BitVec.eq_of_getLsbD_eq fun i hi => ?_
    have hbit := h (399 - lo - i) ⟨by omega, by omega⟩
    rw [BitVec.getMsbD_eq_getLsbD, decide_eq_true (by omega), Bool.true_and] at hbit
    rw [BitVec.getLsbD_extractLsb', BitVec.getLsbD_allOnes, decide_eq_true hi, Bool.true_and, ← hbit]
    congr 1
    omega

/-- The classifiers' test of the lead, the tail and the start bit. -/
theorem framed_iff {n : Nat} (hn : n ≤ 379) : (leadRecessive samples
      && samples.extractLsb' 0 (379 - n) == BitVec.allOnes (379 - n) && !samples.getMsbD 20) = true ↔ framedAs n samples := by
  rw [Bool.and_eq_true, Bool.and_eq_true, leadRecessive, extract_eq_allOnes_iff (by omega), extract_eq_allOnes_iff (by omega),
    Bool.not_eq_true', framedAs]
  refine and_congr_left fun _ => ⟨fun ⟨hlead, htail⟩ i hi => ?_, fun hall => ⟨fun i hi => hall i ?_, fun i hi => hall i ?_⟩⟩
  · obtain hi | hi := hi
    · exact hlead i (by omega)
    · exact htail i (by omega)
  · omega
  · omega

theorem not_allRecessive {n : Nat} (h : framedAs n samples) : allRecessive samples = false := by
  obtain ⟨-, hstart⟩ := h
  rw [allRecessive, beq_eq_false_iff_ne]
  rintro rfl
  simp [BitVec.getMsbD_eq_getLsbD] at hstart

theorem allRecessive_false (h : samples ≠ BitVec.allOnes 400) : allRecessive samples = false := by
  rwa [allRecessive, beq_eq_false_iff_ne]

theorem classifySlot_silent : classifySlot (BitVec.allOnes 400) = .silent := if_pos (beq_self_eq_true _)

theorem classifySlot_framed (h : framedAs 344 samples) : classifySlot samples = .framed (samples.extractLsb' 35 344) := by
  rw [classifySlot, not_allRecessive h, if_neg (by decide)]
  exact if_pos ((framed_iff (by decide)).mpr h)

theorem classifySlot_malformed (hsome : samples ≠ BitVec.allOnes 400) (h : ¬ framedAs 344 samples) :
    classifySlot samples = .malformed := by
  rw [classifySlot, allRecessive_false hsome, if_neg (by decide)]
  exact if_neg (mt (framed_iff (by decide)).mp h)

theorem classifyWindow_silent : classifyWindow (BitVec.allOnes 400) = .silent := if_pos (beq_self_eq_true _)

theorem classifyWindow_framed (h : framedAs 54 samples) : classifyWindow samples = .framed (samples.extractLsb' 325 54) := by
  rw [classifyWindow, not_allRecessive h, if_neg (by decide)]
  exact if_pos ((framed_iff (by decide)).mpr h)

theorem classifyWindow_malformed (hsome : samples ≠ BitVec.allOnes 400) (h : ¬ framedAs 54 samples) :
    classifyWindow samples = .malformed := by
  rw [classifyWindow, allRecessive_false hsome, if_neg (by decide)]
  exact if_neg (mt (framed_iff (by decide)).mp h)

end

/-- The frame that samples carry is the frame sent. -/
theorem extract_samplesOf {bits : List Bool} {n : Nat} (hbits : bits.length = n) (h : n ≤ 379) :
    (samplesOf bits).extractLsb' (379 - n) n = ofBits n bits := by
  refine BitVec.eq_of_getMsbD_eq fun i hi => ?_
  rw [ofBits_getMsbD hbits, ← samplesOf_frame (by omega) (by omega), getMsbD_extract (by omega) hi]
  congr 1
  omega

end Sys2Proof.Machine

/-! PROOF. Notices and Directive Frames as they are sent and as they are read back (R46, R52, R173). -/

namespace Sys2Proof.Machine

open Sys2Proof

/-! ### Bytes in a row -/

theorem length_bitsOfBytes (bs : List Byte) : (bitsOfBytes bs).length = 8 * bs.length := by
  induction bs with
  | nil => rfl
  | cons b bs ih => rw [bitsOfBytes, List.flatMap_cons, List.length_append, length_bitsOf, List.length_cons,
      show (bs.flatMap bitsOf).length = 8 * bs.length from ih]; omega

/-- The bits of a row of bytes, byte by byte. -/
theorem bitsOfBytes_getD (bs : List Byte) {o i : Nat} (ho : o < bs.length) (hi : i < 8) (b : Bool) :
    (bitsOfBytes bs).getD (8 * o + i) b = (byteAt bs o).getMsbD i := by
  induction bs generalizing o with
  | nil => cases ho
  | cons x bs ih =>
    rw [bitsOfBytes, List.flatMap_cons]
    cases o with
    | zero => rw [List.getD_append _ _ _ _ (by rw [length_bitsOf]; omega), Nat.mul_zero, Nat.zero_add, bitsOf_getD x hi]; rfl
    | succ o =>
      rw [List.getD_append_right _ _ _ _ (by rw [length_bitsOf]; omega), length_bitsOf,
        show 8 * (o + 1) + i - 8 = 8 * o + i by omega]
      exact ih (by simpa using ho)

theorem byteAt_eq_getElem {bs : List Byte} {o : Nat} (h : o < bs.length) : byteAt bs o = bs[o] := by
  simp [byteAt, List.getD_eq_getElem?_getD, h]

/-- The bytes received are the bytes sent. -/
theorem noticeBytes_ofBits {bs : List Byte} (h : bs.length = 43) : noticeBytes (ofBits 344 (bitsOfBytes bs)) = bs := by
  refine List.ext_getElem (by simp [noticeBytes, h]) fun o ho ho' => ?_
  simp only [noticeBytes, List.getElem_map, List.getElem_range]
  refine BitVec.eq_of_getMsbD_eq fun i hi => ?_
  have hbits : (bitsOfBytes bs).length = 344 := by rw [length_bitsOfBytes, h]
  rw [getMsbD_extract (by omega) hi, ofBits_getMsbD hbits, ← byteAt_eq_getElem ho', ← bitsOfBytes_getD bs ho' hi false]
  congr 1
  omega

/-! ### The fields of a notice -/

theorem FieldAt.byteAt_eq {b : List Byte} {o : Nat} {x : Byte} (h : FieldAt b o [x]) : byteAt b o = x := by
  have h := fieldAt_iff_getElem?.mp h 0 (by simp)
  rw [Nat.add_zero] at h
  rw [byteAt, List.getD_eq_getElem?_getD, h]
  rfl

theorem FieldAt.byteAt_of_list {b f : List Byte} {o i : Nat} (h : FieldAt b o f) (hi : i < f.length) :
    byteAt b (o + i) = f[i] := by
  have h := fieldAt_iff_getElem?.mp h i hi
  rw [byteAt, List.getD_eq_getElem?_getD, h, List.getElem?_eq_getElem hi]
  rfl

theorem FieldAt.word16At_eq {b : List Byte} {o : Nat} {x : BitVec 16} (h : FieldAt b o (bytes16 x)) : word16At b o = x := by
  have h0 : byteAt b (o + 0) = x.extractLsb' 8 8 := h.byteAt_of_list (by simp [bytes16])
  have h1 : byteAt b (o + 1) = x.extractLsb' 0 8 := h.byteAt_of_list (by simp [bytes16])
  rw [Nat.add_zero] at h0
  rw [word16At, h0, h1]
  exact BitVec.extractLsb'_append_extractLsb' (w := 8) (len := 8)

theorem FieldAt.word32At_eq {b : List Byte} {o : Nat} {x : BitVec 32} (h : FieldAt b o (bytes32 x)) : word32At b o = x := by
  have hbyte (i : Nat) (hi : i < 4) : byteAt b (o + i) = (bytes32 x)[i]'(by simpa [bytes32] using hi) := h.byteAt_of_list _
  have h0 := hbyte 0 (by decide)
  rw [Nat.add_zero] at h0
  rw [word32At, word16At, word16At, h0, hbyte 1 (by decide), hbyte 2 (by decide), Nat.add_assoc, hbyte 3 (by decide)]
  have hhigh : x.extractLsb' 24 8 ++ x.extractLsb' 16 8 = x.extractLsb' 16 16 :=
    BitVec.extractLsb'_append_extractLsb'_eq_extractLsb' rfl
  have hlow : x.extractLsb' 8 8 ++ x.extractLsb' 0 8 = x.extractLsb' 0 16 :=
    BitVec.extractLsb'_append_extractLsb'_eq_extractLsb' rfl
  change (x.extractLsb' 24 8 ++ x.extractLsb' 16 8) ++ (x.extractLsb' 8 8 ++ x.extractLsb' 0 8) = x
  rw [hhigh, hlow]
  exact BitVec.extractLsb'_append_extractLsb' (w := 16) (len := 16)

section
variable (n : Notice)

/-- Bytes 0 to 40 of a notice in their order. -/
def Notice.segments : List (List Byte) :=
  [[n.sender ++ n.status.code], [n.seq], [n.voidCount ++ n.pressure], bytes32 n.planDigest, bytes32 n.standingDigest,
   n.percents.toList, bytes16 n.evicted, n.demands.toList.flatMap bytes16]

theorem Notice.bytes_eq : n.bytes = n.segments.flatten := by
  simp [Notice.bytes, Notice.segments]

theorem nibbles (a b : BitVec 4) : byte (16 * a.toNat + b.toNat) = a ++ b := by
  refine BitVec.eq_of_toNat_eq ?_
  have := a.isLt
  have := b.isLt
  rw [BitVec.toNat_append, byte, BitVec.toNat_ofNat, Nat.shiftLeft_eq]
  rw [← Nat.shiftLeft_eq, ← Nat.shiftLeft_add_eq_or_of_lt b.isLt, Nat.shiftLeft_eq]
  omega

/-- The fields of a notice (R173), in whatever it stands at the front of. -/
theorem Notice.fields_of_append (after : List Byte) : fieldsAt (n.bytes ++ after)
    [(0, [n.sender ++ n.status.code]), (1, [n.seq]), (2, [n.voidCount ++ n.pressure]), (3, bytes32 n.planDigest),
     (7, bytes32 n.standingDigest), (11, n.percents.toList), (15, bytes16 n.evicted),
     (17, n.demands.toList.flatMap bytes16)] := by
  refine fieldsAt_of_layout n.segments after (by rw [n.bytes_eq]) ?_
  simp [layout, Notice.segments, bytes32, bytes16]

theorem NoticeStatus.ofCode_code (st : NoticeStatus) : NoticeStatus.ofCode st.code = some st := by
  cases st <;> rfl

/-- A notice read from its bytes, whatever follows them. -/
theorem Notice.ofBytes_bytes (after : List Byte) : Notice.ofBytes (n.bytes ++ after) = some n := by
  have hfields := n.fields_of_append after
  simp only [fieldsAt_cons] at hfields
  obtain ⟨hhead, hseq, hvoid, hplan, hstanding, hpercents, hevicted, hdemands, -⟩ := hfields
  have hpercent (t : Fin 4) : byteAt (n.bytes ++ after) (11 + t.val) = n.percents[t] := by
    rw [hpercents.byteAt_of_list (by simp)]
    simp
  have hdemand (q : Fin 12) : word16At (n.bytes ++ after) (17 + 2 * q.val) = n.demands[q] := by
    refine (hdemands.trans (FieldAt.flatMap length_bytes16 ?_)).word16At_eq
    simp
  have hstatus : (n.sender ++ n.status.code).extractLsb' 0 4 = n.status.code := BitVec.extractLsb'_append_eq_right
  have hsender : (n.sender ++ n.status.code).extractLsb' 4 4 = n.sender := BitVec.extractLsb'_append_eq_left
  have hcount : (n.voidCount ++ n.pressure).extractLsb' 4 4 = n.voidCount := BitVec.extractLsb'_append_eq_left
  have hpressure : (n.voidCount ++ n.pressure).extractLsb' 0 4 = n.pressure := BitVec.extractLsb'_append_eq_right
  have hps : (Vector.ofFn fun t : Fin 4 => byteAt (n.bytes ++ after) (11 + t.val)) = n.percents := by
    ext i hi
    simp only [Vector.getElem_ofFn, hpercent]
    rfl
  have hds : (Vector.ofFn fun q : Fin 12 => word16At (n.bytes ++ after) (17 + 2 * q.val)) = n.demands := by
    ext i hi
    simp only [Vector.getElem_ofFn, hdemand]
    rfl
  simp only [Notice.ofBytes, hhead.byteAt_eq, hseq.byteAt_eq, hvoid.byteAt_eq, hplan.word32At_eq, hstanding.word32At_eq,
    hevicted.word16At_eq, hps, hds, hstatus, hsender, hcount, hpressure, NoticeStatus.ofCode_code]

/-- A notice sent whole is valid in its sender's slot when its percents are (R46). -/
theorem validNotice_sent (h : ∀ t : Fin 4, n.percents[t].toNat ≤ 100) :
    validNotice n.sender (n.bytes ++ bytes16 n.check) = some n := by
  have htake : (n.bytes ++ bytes16 n.check).take 41 = n.bytes := by
    rw [List.take_append_of_le_length (by simp), List.take_of_length_le (by simp)]
  have hcheck : word16At (n.bytes ++ bytes16 n.check) 41 = n.check := by
    refine FieldAt.word16At_eq ?_
    rw [← n.length_bytes, ← List.append_nil (n.bytes ++ _)]
    exact FieldAt.of_eq rfl
  have hpercents : n.percents.all (fun a => decide (a.toNat ≤ 100)) = true := by
    rw [Vector.all_eq_true]
    intro i hi
    exact decide_eq_true (h ⟨i, hi⟩)
  rw [validNotice, htake, hcheck, if_pos (show frameCheck (bitsOfBytes n.bytes) = n.check from rfl), n.ofBytes_bytes]
  simp only [hpercents, and_self, if_true]

end

/-! ### Where no notice is valid -/

theorem NoticeStatus.ofCode_eq_none_iff (c : BitVec 4) :
    NoticeStatus.ofCode c = none ↔ ¬ (1 ≤ c.toNat ∧ c.toNat ≤ 5) := by
  revert c
  decide

theorem validNotice_eq_none_iff (slot : StationNo) (b : List Byte) : validNotice slot b = none ↔
    frameCheck (bitsOfBytes (b.take 41)) ≠ word16At b 41 ∨ nat8At b 0 / 16 ≠ slot.toNat
      ∨ ¬ (1 ≤ nat8At b 0 % 16 ∧ nat8At b 0 % 16 ≤ 5) ∨ ∃ t : Fin 4, 100 < nat8At b (11 + t.val) := by
  have hlow : ((byteAt b 0).extractLsb' 0 4).toNat = nat8At b 0 % 16 := by
    simp [nat8At, BitVec.extractLsb'_toNat]
  have hhigh : ((byteAt b 0).extractLsb' 4 4).toNat = nat8At b 0 / 16 := by
    have := (byteAt b 0).isLt
    simp only [nat8At, BitVec.extractLsb'_toNat, Nat.shiftRight_eq_div_pow]
    omega
  have hpercents : ((Vector.ofFn fun t : Fin 4 => byteAt b (11 + t.val)).all fun a => decide (a.toNat ≤ 100)) = true
      ↔ ¬ ∃ t : Fin 4, 100 < nat8At b (11 + t.val) := by
    rw [Vector.all_eq_true]
    simp only [Vector.getElem_ofFn, decide_eq_true_eq, nat8At, not_exists, not_lt]
    exact ⟨fun h t => h t.val t.isLt, fun h i hi => h ⟨i, hi⟩⟩
  rw [validNotice]
  by_cases hcheck : frameCheck (bitsOfBytes (b.take 41)) = word16At b 41
  · rw [if_pos hcheck, Notice.ofBytes]
    cases hstatus : NoticeStatus.ofCode ((byteAt b 0).extractLsb' 0 4) with
    | none =>
      rw [NoticeStatus.ofCode_eq_none_iff, hlow] at hstatus
      simp [hstatus]
    | some st =>
      have hgood : 1 ≤ nat8At b 0 % 16 ∧ nat8At b 0 % 16 ≤ 5 := by
        by_contra hbad
        rw [← hlow, ← NoticeStatus.ofCode_eq_none_iff, hstatus] at hbad
        cases hbad
      simp only [hpercents, BitVec.toNat_eq, hhigh, hcheck, hgood]
      grind
  · simp [hcheck]

/-! ### Directive Frames -/

theorem validDirective_eq_none_iff (x : BitVec 54) : validDirective x = none ↔
    frameCheck (bitsOf (x.extractLsb' 16 38)) ≠ x.extractLsb' 0 16
      ∨ ¬ (1 ≤ (x.extractLsb' 32 8).toNat ∧ (x.extractLsb' 32 8).toNat ≤ 3) := by
  have hkind : (x.extractLsb' 16 38).extractLsb' 16 8 = x.extractLsb' 32 8 := by
    refine BitVec.eq_of_getMsbD_eq fun i hi => ?_
    rw [getMsbD_extract (by decide) hi, getMsbD_extract (by decide) (by omega), getMsbD_extract (by decide) hi]
    congr 1
    omega
  have hrange : ¬ (1 ≤ (x.extractLsb' 32 8).toNat ∧ (x.extractLsb' 32 8).toNat ≤ 3)
      ↔ DirectiveKind.ofByte (x.extractLsb' 32 8) = none := by
    rw [DirectiveKind.ofByte_eq_none_iff, ← BitVec.toNat_inj]
    change _ ↔ (x.extractLsb' 32 8).toNat = 0 ∨ _
    omega
  rw [validDirective, hkind, hrange]
  by_cases hcheck : frameCheck (bitsOf (x.extractLsb' 16 38)) = x.extractLsb' 0 16
  · rw [if_pos hcheck]
    cases DirectiveKind.ofByte (x.extractLsb' 32 8) <;> simp [hcheck]
  · simp [hcheck]

theorem DirectiveKind.ofByte_code (k : DirectiveKind) : DirectiveKind.ofByte k.code = some k := by
  cases k <;> rfl

/-- A directive sent whole is valid (R52). -/
theorem validDirective_wire (d : DirectiveFrame) : validDirective d.wire = some d := by
  have hhead : d.wire.extractLsb' 16 38 = d.head := BitVec.extractLsb'_append_eq_left
  have hcheck : d.wire.extractLsb' 0 16 = frameCheck (bitsOf d.head) := BitVec.extractLsb'_append_eq_right
  have hoperand : d.head.extractLsb' 0 16 = d.operand := BitVec.extractLsb'_append_eq_right
  have hkind : d.head.extractLsb' 16 8 = d.kind.code :=
    (BitVec.extractLsb'_append_eq_of_le le_rfl).trans BitVec.extractLsb'_append_eq_right
  have hseq : d.head.extractLsb' 24 8 = d.seq :=
    (BitVec.extractLsb'_append_eq_of_le (by decide)).trans <|
      (BitVec.extractLsb'_append_eq_of_le le_rfl).trans BitVec.extractLsb'_append_eq_right
  have hsender : d.head.extractLsb' 32 4 = d.sender :=
    (BitVec.extractLsb'_append_eq_of_le (by decide)).trans <| (BitVec.extractLsb'_append_eq_of_le (by decide)).trans <|
      (BitVec.extractLsb'_append_eq_of_le le_rfl).trans BitVec.extractLsb'_append_eq_right
  have hpriority : d.head.extractLsb' 36 2 = d.priority :=
    (BitVec.extractLsb'_append_eq_of_le (by decide)).trans <| (BitVec.extractLsb'_append_eq_of_le (by decide)).trans <|
      (BitVec.extractLsb'_append_eq_of_le (by decide)).trans BitVec.extractLsb'_append_eq_left
  simp only [validDirective, hhead, hcheck, if_true, hkind, DirectiveKind.ofByte_code, hpriority, hsender, hseq, hoperand]

end Sys2Proof.Machine

/-! PROOF. What a station puts on SDAT: its notice in its own slot, and the bits of a frame on the line (R25, R26, R57, R58,
R131, R172, R173). -/

namespace Sys2Proof.Machine

open Sys2Proof

theorem slotStart_eq (k : StationNo) : slotStart k = 200 + 400 * k.toNat := by
  simp only [slotStart, bitTimes]
  omega

theorem observes_of_noticeStatus {st : StationState} {status : NoticeStatus} (h : noticeStatus st = some status) :
    observes st = true := by
  cases st <;> simp_all [noticeStatus, observes]

/-! ### The notice composed -/

section
variable (s : State) (status : NoticeStatus)

theorem State.composeNotice_percents (t : Fin 4) :
    (s.composeNotice status).percents[t] = BitVec.ofNat 8 s.alloc.standing.admin.percents[t] := by
  simp [State.composeNotice, byte]

theorem State.composeNotice_pressure (t : Fin 4) : (s.composeNotice status).pressure.getLsbD t.val = true ↔
    t.val < s.plan.targets ∧ s.monitors[t].state = .pressed := by
  change s.pressureView.getLsbD t.val = true ↔ _
  rw [State.pressureView, getLsbD_targetSetOf, Bool.and_eq_true, inUse, decide_eq_true_iff, beq_iff_eq]

theorem State.composeNotice_demands (q : Fin 12) : (s.composeNotice status).demands[q].toNat =
    min ((s.store.queues[q].map (·.cells)).sum + s.store.previous[q]) 65535 := by
  have hdemand : s.demand q = min ((s.store.queues[q].map (·.cells)).sum + s.store.previous[q]) 65535 := rfl
  simp only [State.composeNotice, Fin.getElem_fin, Vector.getElem_ofFn, Fin.eta, BitVec.toNat_ofNat]
  rw [Nat.mod_eq_of_lt (by rw [hdemand]; omega), hdemand]
  rfl

/-! ### The open of a slot -/

variable {s} {slot : StationNo}

theorem exec_censusSlotOpen (ho : observes s.ctl.station = true) (hphase : s.sbi.phase.rank ≤ slot.toNat + 1) :
    exec (.censusSlotOpen slot) s = .next
      (({ s.advanceTo (200 + 400 * slot.toNat) with
          sbi := { (s.advanceTo (200 + 400 * slot.toNat)).sbi with phase := .slot slot } } : State).openSlot slot) := by
  rw [← slotStart_eq]
  exact congrArg Host.Outcome.next (if_pos (guard_true ho hphase))

theorem State.openSlot_own {status : NoticeStatus} (hstatus : noticeStatus s.ctl.station = some status)
    (hfree : s.sbi.txBuffer = none) : s.openSlot s.own = { s with
      sbi := { s.sbi with txBuffer := some (.notice (s.composeNotice status)), readback := .driving } } := by
  rw [State.openSlot, if_pos ⟨rfl, by rw [hfree]; rfl⟩, hstatus]
  rfl

theorem State.openSlot_other
    (h : slot ≠ s.own ∨ noticeStatus s.ctl.station = none ∨ s.sbi.txBuffer ≠ none) : s.openSlot slot = s := by
  rw [State.openSlot]
  split_ifs with hown
  · obtain ⟨hslot, hfree⟩ := hown
    obtain h | h | h := h
    · exact absurd hslot h
    · rw [h]
    · exact absurd (by simpa using hfree) h
  · rfl

end

/-! ### The frame on the line -/

section
variable {b : Sbi} {bitTime : Nat}

theorem Sbi.sdatDrive_released (h : b.txBuffer = none ∨ b.readback ≠ .driving) : b.sdatDrive bitTime = .recessive := by
  unfold Sbi.sdatDrive
  obtain h | h := h
  · rw [h]
    split_ifs <;> simp_all
  · rw [if_neg fun hd => h hd.1]

/-- The bits of a frame (R172, R173). -/
def TxFrame.bits : TxFrame → List Bool
  | .notice n => n.bits
  | .directive d => bitsOf d.wire

/-- The start bit, then the frame's bits, a 0 as dominant; the lead and the tail are recessive (R26, R30). -/
theorem Sbi.sdatDrive_driving {f : TxFrame} (htx : b.txBuffer = some f) (hd : b.readback = .driving) :
    b.sdatDrive bitTime = if bitTime = 20 then .dominant
      else if 21 ≤ bitTime ∧ f.bits.getD (bitTime - 21) true = false then .dominant else .recessive := by
  unfold Sbi.sdatDrive
  rw [htx, hd]
  by_cases h20 : bitTime = 20
  · subst h20
    rfl
  · by_cases hlead : 20 ≤ bitTime
    · rw [if_pos ⟨rfl, hlead⟩, if_neg h20, if_neg h20]
      have hlevel : (if f.bits.getD (bitTime - 21) true then Level.recessive else .dominant) =
          if 21 ≤ bitTime ∧ f.bits.getD (bitTime - 21) true = false then .dominant else .recessive := by
        cases hbit : f.bits.getD (bitTime - 21) true with
        | true => rw [if_pos rfl, if_neg fun h => Bool.false_ne_true h.2.symm]
        | false => rw [if_neg Bool.false_ne_true, if_pos ⟨by omega, rfl⟩]
      rw [← hlevel]
      cases f <;> rfl
    · rw [if_neg fun h => hlead h.2, if_neg h20, if_neg fun h => hlead (by omega)]

end

/-- The bits of a notice, byte by byte, and recessive after them. -/
theorem Notice.bits_getD (n : Notice) (i : Nat) : n.bits.getD i true = false ↔
    i ≤ 343 ∧ (byteAt (n.bytes ++ bytes16 n.check) (i / 8)).getMsbD (i % 8) = false := by
  have hlength : (n.bytes ++ bytes16 n.check).length = 43 := by simp
  by_cases hi : i ≤ 343
  · have hbit := bitsOfBytes_getD (n.bytes ++ bytes16 n.check) (o := i / 8) (i := i % 8) (by omega) (by omega) true
    rw [Nat.div_add_mod] at hbit
    rw [Notice.bits, hbit]
    exact (and_iff_right hi).symm
  · rw [Notice.bits, List.getD_eq_default _ _ (by rw [length_bitsOfBytes, hlength]; omega)]
    exact iff_of_false (by decide) fun h => hi h.1

/-- Settles O22: the own notice, the other slots, and what stands on the line. -/
theorem ownSlotSendsTheNoticeOfItsStart : Obligations.OwnSlotSendsTheNoticeOfItsStart := by
  refine ⟨fun status s hstatus hphase hfree => ?_, fun slot s ho hphase hother => ?_, fun n b htx hd => ?_, fun n => ⟨?_, ?_⟩,
    fun b bitTime h => Sbi.sdatDrive_released h⟩
  · intro u
    rw [exec_censusSlotOpen (observes_of_noticeStatus hstatus) hphase]
    refine ⟨_, congrArg Host.Outcome.next (State.openSlot_own hstatus ((s.advanceTo_txBuffer _).trans hfree)), rfl, rfl,
      s.advanceTo_seq _, rfl, rfl, rfl, rfl, fun t => ⟨State.composeNotice_percents _ _ t, State.composeNotice_pressure _ _ t⟩,
      fun q => State.composeNotice_demands _ _ q⟩
  · intro u
    rw [exec_censusSlotOpen ho hphase, State.openSlot_other]
    exact hother.imp_right (Or.imp_right fun h => by rwa [← s.advanceTo_txBuffer (200 + 400 * slot.toNat)] at h)
  · intro wire bitTime hbit
    rw [Sbi.sdatDrive_driving htx hd]
    refine if_congr Iff.rfl rfl (if_congr ?_ rfl rfl)
    rw [show (TxFrame.notice n).bits = n.bits from rfl, n.bits_getD]
    exact and_congr_right fun hlo => and_congr_left fun _ => by omega
  · exact n.length_bytes
  · have hfields := n.fields_of_append []
    rw [List.append_nil] at hfields
    rwa [nibbles, nibbles]

end Sys2Proof.Machine

/-! PROOF. The readback of a frame, and the close of a slot (R25 to R27, R30, R34, R35, R40, R48, R53, R108 to R110). -/

namespace Sys2Proof.Machine

open Sys2Proof

/-! ### Readback -/

section
variable {s : State} {bitTime : Nat}

theorem State.addReason_eq (f : VetoReasons → VetoReasons) : s.addReason f = { s with
    census := if s.ctl.station = .active then { s.census with reasons := f s.census.reasons } else s.census } := by
  unfold State.addReason
  split_ifs <;> rfl

theorem State.mismatch_eq (place : Place) : s.mismatch place bitTime = { s with
    sbi := { s.sbi with readback := .mismatched }
    census := if s.ctl.station = .active then
      { s.census with reasons := { s.census.reasons with ownAbandoned := true } } else s.census
    mgmt := { s.mgmt with
      flags := s.mgmt.flags ||| eventBit .readback
      bus := s.mgmt.bus.record (.readback place bitTime s.sbi.seq) } } := by
  rw [State.mismatch, State.addReason_eq]
  rfl

/-- A key bit of a directive on the line, by its frame bit (R29, R30). -/
theorem Sbi.sdatDrive_key {b : Sbi} {d : DirectiveFrame} (htx : b.txBuffer = some (.directive d)) (hd : b.readback = .driving)
    (hlo : 21 ≤ bitTime) (hhi : bitTime ≤ 26) :
    b.sdatDrive bitTime = if d.wire.getMsbD (bitTime - 21) = false then .dominant else .recessive := by
  rw [Sbi.sdatDrive_driving htx hd, if_neg (by omega), show (TxFrame.directive d).bits = bitsOf d.wire from rfl,
    bitsOf_getD _ (by omega)]
  exact if_congr (and_iff_right hlo) rfl rfl

theorem isKeyBit_iff : isKeyBit bitTime = true ↔ 21 ≤ bitTime ∧ bitTime ≤ 26 := by
  rw [isKeyBit, Bool.and_eq_true, decide_eq_true_iff, decide_eq_true_iff]

theorem exec_readbackMismatch_slot {n : Notice} {k : StationNo} (hd : s.sbi.readback = .driving) (hlo : 20 ≤ bitTime)
    (hhi : bitTime ≤ 364) (htx : s.sbi.txBuffer = some (.notice n)) (hphase : s.sbi.phase = .slot k) :
    exec (.readbackMismatch bitTime) s = .next (s.mismatch (.slot k) bitTime) := by
  have hreads : s.sbi.readsBack bitTime = true := by simp [Sbi.readsBack, hd, htx, hlo, hhi]
  have hplace : s.sbi.place = some (.slot k) := by rw [Sbi.place, hphase]
  refine congrArg Host.Outcome.next ((if_pos hreads).trans ?_)
  rw [hplace]

theorem exec_readbackMismatch_window {d : DirectiveFrame} (hd : s.sbi.readback = .driving) (hlo : 20 ≤ bitTime)
    (hhi : bitTime ≤ 74) (htx : s.sbi.txBuffer = some (.directive d)) (hphase : s.sbi.phase = .directiveWindow) :
    exec (.readbackMismatch bitTime) s = .next
      (if isKeyBit bitTime && s.sbi.sdatDrive bitTime == .recessive then s.withdraw else s.mismatch .directiveWindow bitTime) := by
  have hreads : s.sbi.readsBack bitTime = true := by simp [Sbi.readsBack, hd, htx, hlo, hhi]
  have hplace : s.sbi.place = some .directiveWindow := by rw [Sbi.place, hphase]
  refine congrArg Host.Outcome.next ((if_pos hreads).trans ?_)
  rw [hplace]

end

/-- Settles O23: the mismatch in a slot, and in the window outside a key bit driven recessive. -/
theorem readbackMismatchAbandonsTheFrame : Obligations.ReadbackMismatchAbandonsTheFrame := by
  intro bitTime place s hd hlo hwhere
  obtain ⟨n, k, htx, hphase, rfl, hhi⟩ | ⟨d, htx, hphase, rfl, hhi, hbit⟩ := hwhere
  · rw [exec_readbackMismatch_slot hd hlo hhi htx hphase, State.mismatch_eq]
  · have hdominant : ¬ (isKeyBit bitTime && s.sbi.sdatDrive bitTime == .recessive) = true := by
      rw [Bool.and_eq_true, isKeyBit_iff]
      rintro ⟨⟨hkey, hkey'⟩, hrecessive⟩
      obtain h | h | h := hbit
      · omega
      · omega
      · rw [Sbi.sdatDrive_key htx hd hkey hkey', if_pos h] at hrecessive
        cases hrecessive
    rw [exec_readbackMismatch_window hd hlo hhi htx hphase, if_neg hdominant, State.mismatch_eq]

/-! ### The close of a slot -/

section
variable {s : State} {slot : StationNo} {samples : BitVec 400} {lineFirst : Bool}

/-- A slot at its end, as its outcome is taken, with no SDAT fault. -/
def State.slotEnded (s : State) (slot : StationNo) : State :=
  { s.advanceTo (slotEnd slot) with
    sbi := { (s.advanceTo (slotEnd slot)).sbi with faults := { s.sbi.faults with sdatLow := false } } }

/-- The slot left behind (R24, R25). -/
def State.leaveSlot (s : State) (slot : StationNo) : State :=
  { s with sbi := { s.sbi with txBuffer := none, readback := .idle, phase := phaseAfterSlot slot } }

theorem State.leaveSlot_slotEnded (s : State) (slot : StationNo) : (s.slotEnded slot).leaveSlot slot = s.slotClosed slot := by
  have hclosed : (s.slotEnded slot).leaveSlot slot = { s.advanceTo (slotEnd slot) with
      sbi := { (s.advanceTo (slotEnd slot)).sbi with
        faults := { s.sbi.faults with sdatLow := false }, txBuffer := none, readback := .idle, phase := phaseAfterSlot slot } } :=
    rfl
  rw [hclosed, ← s.advanceTo_faults (slotEnd slot)]
  rfl

theorem exec_censusSlotClose (h : s.canClose slot) : exec (.censusSlotClose slot samples lineFirst) s =
    .next ((s.advanceTo (slotEnd slot)).closeSlot slot samples lineFirst) := by
  obtain ⟨ho, hphase⟩ := h
  exact congrArg Host.Outcome.next (if_pos (guard_true ho hphase))

/-- A slot that is not dominant throughout. -/
theorem exec_censusSlotClose_clean (h : s.canClose slot) (hs : samples ≠ 0) :
    exec (.censusSlotClose slot samples lineFirst) s =
      .next (((s.slotEnded slot).deliverSlot slot samples).leaveSlot slot) := by
  have hall : allDominant samples = false := beq_eq_false_iff_ne.mpr hs
  have hfault : (s.advanceTo (slotEnd slot)).slotFault samples = s.slotEnded slot := by
    rw [State.slotFault, hall, State.modFaults_of_ends (LineFaults.any_mono id id id fun h => by cases h),
      s.advanceTo_faults]
    rfl
  rw [exec_censusSlotClose h, State.closeSlot, Sbi.sdatLowBegins, hall, hfault]
  rfl

theorem State.deliverSlot_of_none (h : s.sbi.txBuffer = none) :
    s.deliverSlot slot samples = s.receiveSlot slot (classifySlot samples) := by
  simp only [State.deliverSlot, h]

theorem State.deliverSlot_own {n : Notice} (h : s.sbi.txBuffer = some (.notice n)) :
    s.deliverSlot s.own samples = s.closeOwnSlot n (leadRecessive samples) := by
  simp only [State.deliverSlot, h, if_true]

theorem State.slotEnded_txBuffer (s : State) (slot : StationNo) : (s.slotEnded slot).sbi.txBuffer = s.sbi.txBuffer :=
  s.advanceTo_txBuffer _
theorem State.slotEnded_readback (s : State) (slot : StationNo) : (s.slotEnded slot).sbi.readback = s.sbi.readback :=
  s.advanceTo_readback _
theorem State.slotEnded_seq (s : State) (slot : StationNo) : (s.slotEnded slot).sbi.seq = s.sbi.seq := s.advanceTo_seq _
theorem State.slotEnded_clashStreak (s : State) (slot : StationNo) :
    (s.slotEnded slot).sbi.clashStreak = s.sbi.clashStreak := s.advanceTo_clashStreak _

/-! ### The own slot -/

variable {n : Notice} {lead : Bool}

/-- A station that is not Listening hears a notice without a change of its sequence (R43, R47). -/
theorem State.hearNotice_of_not_listening (h : s.ctl.station ≠ .listening) (k : StationNo) (n : Notice) :
    s.hearNotice k n = { s with census :=
      { s.census.setEntry k { state := .heard, contents := some n, missCount := 0, lastHeard := s.sbi.seq } with
        heard := s.census.heard ||| stationBit k } } := by
  have hadopt : s.adoptFirstActive n = s := if_neg fun h' => h h'.1
  rw [State.hearNotice, hadopt]
  rfl

theorem State.clashes_of_not_mismatched (h : s.sbi.readback ≠ .mismatched) : s.clashes lead = false := by
  simp [State.clashes, h]

/-- No clash is found where the lead was driven by another station too (R35). -/
theorem State.clashes_false (s : State) : s.clashes false = false := by
  rw [Bool.eq_false_iff]
  intro h
  simp only [State.clashes, Bool.and_eq_true, decide_eq_true_eq, beq_iff_eq] at h
  obtain ⟨⟨⟨hmismatch, hlt⟩, hstreak⟩, -⟩ := h
  rw [hmismatch] at hstreak
  exact absurd hstreak (Nat.ne_of_lt hlt)

theorem clashStreakAfter_false {outcome : Readback} (streak : Nat) (h : outcome ≠ .driving) (h' : outcome ≠ .complete) :
    clashStreakAfter streak outcome false = streak := by
  cases outcome <;> simp_all [clashStreakAfter]

/-- An own notice sent whole. -/
theorem State.closeOwnSlot_sent (h : s.sbi.readback = .driving ∨ s.sbi.readback = .complete)
    (hst : s.ctl.station ≠ .listening) : s.closeOwnSlot n lead = { s with
      sbi := { s.sbi with clashStreak := 0 }
      census := { s.census.setEntry s.own
          { state := .heard, contents := some n, missCount := 0, lastHeard := s.sbi.seq } with
        heard := s.census.heard ||| stationBit s.own, ownSent := true } } := by
  have hclash : s.clashes lead = false := State.clashes_of_not_mismatched (by obtain h | h := h <;> rw [h] <;> decide)
  have hstreak : clashStreakAfter s.sbi.clashStreak s.sbi.readback lead = 0 := by obtain h | h := h <;> rw [h] <;> rfl
  have hover : s.handOver n = (s.hearNotice s.own n).modCensus fun c => { c with ownSent := true } := if_pos h
  rw [State.closeOwnSlot, hclash, if_neg (by decide), hover, State.hearNotice_of_not_listening hst, ← hstreak]
  rfl

/-- An own notice that was not sent whole and makes no clash. -/
theorem State.closeOwnSlot_unsent (h : s.sbi.readback ≠ .driving) (h' : s.sbi.readback ≠ .complete)
    (hclash : s.clashes lead = false) : s.closeOwnSlot n lead = { s with
      sbi := { s.sbi with clashStreak := clashStreakAfter s.sbi.clashStreak s.sbi.readback lead } } := by
  have hover : s.handOver n = s := if_neg (not_or.mpr ⟨h, h'⟩)
  rw [State.closeOwnSlot, hclash, if_neg (by decide), hover]
  rfl

/-- The second mismatch in a row with a recessive lead excludes the station (R35, R108). -/
theorem State.closeOwnSlot_clash (h : s.sbi.readback = .mismatched) (hstreak : s.sbi.clashStreak = 1)
    (hstatus : (noticeStatus s.ctl.station).isSome = true) : s.closeOwnSlot n true =
      ({ s with sbi := { s.sbi with clashStreak := 2 } } : State).enterExcluded .clash := by
  have hclash : s.clashes true = true := by simp [State.clashes, h, hstreak, hstatus, clashStreakAfter, satInc]
  have hover : s.handOver n = s := if_neg (by rw [h]; decide)
  have htwo : clashStreakAfter s.sbi.clashStreak s.sbi.readback true = 2 := by rw [h, hstreak]; rfl
  rw [State.closeOwnSlot, hclash, if_pos rfl, hover, ← htwo]
  rfl

end

/-- What the entry to Excluded leaves, of a station that transmits (R108 to R110). -/
theorem State.enterExcluded_leaves {v : State} (h : v.ctl.station ≠ .excluded) (cause : Cause) :
    (v.enterExcluded cause).ctl = { v.ctl.out .excluded with cause := cause }
      ∧ (v.enterExcluded cause).mgmt = v.mgmt.exit v.store.held.length (!v.ctl.queue.isEmpty) .excluded
      ∧ (v.enterExcluded cause).store = v.store.empty ∧ (v.enterExcluded cause).meter = v.meter.enter .excluded
      ∧ (v.enterExcluded cause).sent = v.sent ++ v.store.held.map (fun (d : Descriptor) => LinkMessage.expired d.tag .exclude)
      ∧ (v.enterExcluded cause).sbi = v.sbi.releaseFor .excluded
      ∧ v.exitFrame (v.enterExcluded cause) := by
  have hne : StationState.excluded ≠ v.ctl.station := Ne.symm h
  rw [v.enterExcluded_eq_turned h]
  generalize ht : v.turned { v.ctl.out .excluded with cause := cause } = t
  have hctl : t.ctl = { v.ctl.out .excluded with cause := cause } := by rw [← ht]; rfl
  have hmgmt : t.mgmt = v.mgmt.exit v.store.held.length (!v.ctl.queue.isEmpty) .excluded := by
    rw [← ht]
    simp [State.turned, Control.out, hne, isOut]
  have hstore : t.store = v.store.empty := by
    rw [← ht]
    simp [State.turned, Control.out, hne, isOut]
  have hmonitors : t.monitors = v.monitors := by
    rw [← ht]
    simp [State.turned, Control.out]
  have hsbi : t.sbi = v.sbi.releaseFor .excluded := by
    rw [← ht]
    simp [State.turned, Control.out, hne]
  have hframe : v.exitFrame t := by
    have hrest : t.pending = v.pending ∧ t.loader = v.loader ∧ t.resetLow = v.resetLow ∧ t.census = v.census
        ∧ t.alloc = v.alloc := by rw [← ht]; exact ⟨rfl, rfl, rfl, rfl, rfl⟩
    obtain ⟨hpending, hloader, hreset, hcensus, halloc⟩ := hrest
    refine ⟨⟨hpending, hloader, hreset, by rw [hsbi]; rfl, by rw [hsbi]; rfl⟩, ⟨hcensus, halloc, hmonitors, by rw [hstore]; rfl,
      by rw [hstore]; rfl, by rw [hctl]; rfl, by rw [hctl]; rfl, by rw [hctl]; rfl⟩, ?_⟩
    rw [hmgmt, Mgmt.exit_eq]
    exact ⟨rfl, rfl, rfl, rfl, rfl, rfl, rfl⟩
  refine ⟨hctl, hmgmt, hstore, ?_, ?_, hsbi, hframe⟩
  · rw [← ht]
    simp [State.turned, Control.out, hne]
  · rw [← ht]
    simp [State.turned, Control.out, hne, isOut, exitReason]

/-- A slot closed is no exit: what the entries to Quiet and Excluded leave alone, it leaves. -/
theorem State.exitFrame_slotEnded (s : State) (slot : StationNo) : s.exitFrame (s.slotEnded slot) := by
  have hrunning : (s.advanceTo (slotEnd slot)).sbi.running = s.sbi.running := by rw [State.advanceTo_sbi]
  exact ⟨⟨rfl, rfl, rfl, s.slotEnded_seq slot, hrunning⟩, ⟨rfl, rfl, rfl, rfl, rfl, rfl, rfl, rfl⟩,
    rfl, rfl, rfl, rfl, rfl, rfl, rfl⟩

/-- Settles O24: the outcomes of the own slot, by the readback and the lead. -/
theorem ownSlotOutcomes : Obligations.OwnSlotOutcomes := by
  intro n samples lineFirst s hclose htx hs hst u e
  have hown : (s.slotEnded s.own).own = s.own := rfl
  have hdeliver : (s.slotEnded s.own).deliverSlot s.own samples = (s.slotEnded s.own).closeOwnSlot n (leadRecessive samples) :=
    State.deliverSlot_own ((s.slotEnded_txBuffer s.own).trans htx)
  have hreadback := s.slotEnded_readback s.own
  have hstreak := s.slotEnded_clashStreak s.own
  have hclosed := s.leaveSlot_slotEnded s.own
  rw [exec_censusSlotClose_clean hclose hs, hdeliver]
  refine ⟨fun hsent => ?_, fun hmismatch hlead hzero => ?_, fun hmismatch hlead => ?_, fun hreleased => ?_,
    fun hmismatch hlead hone hstatus => ?_⟩
  · rw [State.closeOwnSlot_sent (s := s.slotEnded s.own) (by rwa [hreadback]) hst, s.slotEnded_seq]
    change _ = Host.Outcome.next { s.slotClosed s.own with
      sbi := { (s.slotClosed s.own).sbi with clashStreak := 0 }
      census := { s.census.setEntry s.own e with heard := s.census.heard ||| stationBit s.own, ownSent := true } }
    rw [← hclosed]
    rfl
  · have hclash : (s.slotEnded s.own).clashes true = false := by
      simp [State.clashes, hreadback, hmismatch, hstreak, hzero, clashStreakAfter, satInc]
    rw [hlead, State.closeOwnSlot_unsent (s := s.slotEnded s.own) (by rw [hreadback, hmismatch]; decide) (by rw [hreadback, hmismatch]; decide) hclash,
      hreadback, hstreak, hmismatch, hzero]
    change _ = Host.Outcome.next { s.slotClosed s.own with sbi := { (s.slotClosed s.own).sbi with clashStreak := 1 } }
    rw [← hclosed]
    rfl
  · have hclash := (s.slotEnded s.own).clashes_false
    rw [hlead, State.closeOwnSlot_unsent (s := s.slotEnded s.own) (by rw [hreadback, hmismatch]; decide) (by rw [hreadback, hmismatch]; decide) hclash,
      hreadback, hmismatch]
    change _ = Host.Outcome.next (s.slotClosed s.own)
    rw [← hclosed]
    rfl
  · rw [State.closeOwnSlot_unsent (s := s.slotEnded s.own) (by rw [hreadback, hreleased]; decide) (by rw [hreadback, hreleased]; decide)
      (State.clashes_of_not_mismatched (by rw [hreadback, hreleased]; decide)), hreadback, hreleased]
    change _ = Host.Outcome.next (s.slotClosed s.own)
    rw [← hclosed]
    rfl
  · rw [hlead, State.closeOwnSlot_clash (s := s.slotEnded s.own) (hreadback.trans hmismatch) (hstreak.trans hone) hstatus]
    have hserves : s.ctl.station ≠ .excluded := by
      rintro h
      rw [h] at hstatus
      cases hstatus
    obtain ⟨hctl, hmgmt, hstore, hmeter, hsent, hsbi, hframe⟩ := State.enterExcluded_leaves
      (v := { s.slotEnded s.own with sbi := { (s.slotEnded s.own).sbi with clashStreak := 2 } }) hserves .clash
    have hslot : s.exitFrame { s.slotEnded s.own with sbi := { (s.slotEnded s.own).sbi with clashStreak := 2 } } :=
      s.exitFrame_slotEnded s.own
    refine ⟨_, rfl, ?_, ?_, ?_, ?_, ?_, ?_, ?_, hslot.trans hframe, hsent, ?_, ?_, ?_⟩
    · exact congrArg Control.station hctl
    · exact congrArg Control.cause hctl
    · exact congrArg Sbi.clashStreak hsbi
    · refine (congrArg (Mgmt.flag · .excluded) hmgmt).trans ?_
      simp [Mgmt.flag_exit]
    · exact (congrArg Store.held hstore).trans (Store.held_empty _)
    · exact congrArg Control.queue hctl
    · exact congrArg Meter.running hmeter
    · refine (congrArg (fun m : Mgmt => m.counters.expiries) hmgmt).trans ?_
      rw [Mgmt.exit_eq]
      rfl
    · refine (congrArg (Mgmt.flag · .expired) hmgmt).trans ?_
      change (s.mgmt.exit s.store.held.length (!s.ctl.queue.isEmpty) .excluded).flag .expired = _
      rw [Mgmt.flag_exit]
      cases s.store.held <;> simp
    · refine (congrArg (Mgmt.flag · .dirDrop) hmgmt).trans ?_
      change (s.mgmt.exit s.store.held.length (!s.ctl.queue.isEmpty) .excluded).flag .dirDrop = _
      rw [Mgmt.flag_exit]
      simp

end Sys2Proof.Machine

/-! PROOF. What the Census Unit makes of a closed slot, and the watch of SDAT (R27, R40, R41, R43, R46 to R50, R53). -/

namespace Sys2Proof.Machine

open Sys2Proof

/-! ### A notice heard -/

section
variable {s : State}

/-- Whether a notice gives a Listening station its sequence (R43, R47). -/
def State.adopts (s : State) (n : Notice) : Bool := s.ctl.station == .listening && n.status == .active && !s.census.activeHeard

theorem State.hearNotice_eq (k : StationNo) (n : Notice) : s.hearNotice k n = { s with
    sbi := { s.sbi with seq := if s.adopts n then n.seq else s.sbi.seq }
    census := { s.census.setEntry k { state := .heard, contents := some n, missCount := 0
                                      lastHeard := if s.adopts n then n.seq else s.sbi.seq } with
      heard := s.census.heard ||| stationBit k, activeHeard := s.census.activeHeard || s.adopts n } } := by
  have hiff : s.adopts n = true ↔ s.ctl.station = .listening ∧ n.status = .active ∧ s.census.activeHeard = false := by
    simp [State.adopts, and_assoc]
  cases hadopts : s.adopts n with
  | true =>
    have hadopt : s.adoptFirstActive n = (s.modSbi fun b => { b with seq := n.seq }).modCensus fun c =>
        { c with activeHeard := true } := if_pos (hiff.mp hadopts)
    rw [State.hearNotice, hadopt, Bool.or_true]
    rfl
  | false =>
    have hadopt : s.adoptFirstActive n = s := if_neg fun h => Bool.false_ne_true (hadopts.symm.trans (hiff.mpr h))
    rw [State.hearNotice, hadopt, Bool.or_false]
    rfl

/-- What a slot brings that carries a valid notice. -/
theorem State.receiveSlot_valid {k : StationNo} {x : BitVec 344} {n : Notice} (h : validNotice k (noticeBytes x) = some n) :
    s.receiveSlot k (.framed x) = s.hearNotice k n := by
  simp only [State.receiveSlot, h]

theorem State.receiveSlot_invalid {k : StationNo} {x : BitVec 344} (h : validNotice k (noticeBytes x) = none) :
    s.receiveSlot k (.framed x) = s.badSlot (.check (.slot k) s.sbi.seq) := by
  simp only [State.receiveSlot, h]

theorem State.badSlot_eq (event : BusEvent) : s.badSlot event = { s with
    census := if s.ctl.station = .active then
      { s.census with reasons := { s.census.reasons with badSlot := true } } else s.census
    mgmt := { s.mgmt with
      bus := s.mgmt.bus.record event
      counters := { s.mgmt.counters with badFrames := countUp 1 s.mgmt.counters.badFrames } } } := by
  rw [State.badSlot, State.addReason_eq]
  rfl

end

theorem Notice.length_bits (n : Notice) : n.bits.length = 344 := by
  rw [Notice.bits, length_bitsOfBytes]
  simp

/-- The samples of a notice are found framed, and the frame is the notice's bytes. -/
theorem classifySlot_sent (n : Notice) : ∃ x, classifySlot (samplesOf n.bits) = .framed x
    ∧ noticeBytes x = n.bytes ++ bytes16 n.check := by
  have hlength := n.length_bits
  have hframed := framedAs_samplesOf (bits := n.bits) (by omega)
  rw [hlength] at hframed
  refine ⟨_, classifySlot_framed hframed, ?_⟩
  have hextract := extract_samplesOf hlength (by decide)
  rw [show (35 : Nat) = 379 - 344 from rfl, hextract]
  exact noticeBytes_ofBits (by simp)

theorem samplesOf_ne_zero {bits : List Bool} (h : bits.length ≤ 379) : samplesOf bits ≠ 0 := by
  intro hzero
  have hlead := samplesOf_lead h (i := 0) (by decide)
  rw [hzero, BitVec.getMsbD_eq_getLsbD] at hlead
  simp at hlead

theorem allOnes_ne_zero : BitVec.allOnes 400 ≠ 0 := by
  intro h
  have hbit := congrArg (fun x => x.getLsbD 0) h
  simp at hbit

/-- Settles O25: the notice is heard as it was sent. -/
theorem aSentNoticeIsHeardAsItWasSent : Obligations.ASentNoticeIsHeardAsItWasSent := by
  intro n lineFirst s hclose htx hpercents u adopts seq e
  obtain ⟨x, hframed, hbytes⟩ := classifySlot_sent n
  have hvalid : validNotice n.sender (noticeBytes x) = some n := by
    rw [hbytes]
    exact validNotice_sent n hpercents
  have hadopts : (s.slotEnded n.sender).adopts n = adopts := rfl
  have hcensus : (s.slotEnded n.sender).census = s.census := rfl
  rw [exec_censusSlotClose_clean hclose (samplesOf_ne_zero (by rw [n.length_bits]; decide)),
    State.deliverSlot_of_none ((s.slotEnded_txBuffer _).trans htx), hframed, State.receiveSlot_valid hvalid,
    State.hearNotice_eq, hadopts, s.slotEnded_seq, hcensus]
  change _ = Host.Outcome.next { s.slotClosed n.sender with
    sbi := { (s.slotClosed n.sender).sbi with seq := seq }
    census := { s.census.setEntry n.sender e with
      heard := s.census.heard ||| stationBit n.sender, activeHeard := s.census.activeHeard || adopts } }
  rw [← s.leaveSlot_slotEnded]
  rfl

/-! ### Slots without a notice -/

/-- An entry after a silent slot, case by case (R49). -/
theorem PeerEntry.silent_eq (e : PeerEntry) (limit : Nat) : e.silent limit =
    if e.state = .absent then e
    else if e.state = .heard ∧ ¬ (e.status = some .active ∨ e.status = some .leaving) then { e with state := .absent }
    else if e.missCount + 1 = limit then { e with state := .absent, missCount := 0 }
    else { e with state := .held, missCount := e.missCount + 1 } := by
  simp only [← PeerEntry.serves_iff]
  unfold PeerEntry.silent PeerEntry.miss
  cases hst : e.state with
  | absent => rfl
  | held => rfl
  | heard => cases e.status.any NoticeStatus.serving <;> rfl

/-- Settles O26: the silent slot, the bad ones, and where no notice is valid. -/
theorem slotsWithoutANotice : Obligations.SlotsWithoutANotice := by
  refine ⟨fun slot lineFirst s hclose htx => ?_, validNotice_eq_none_iff⟩
  intro e serving e' bad
  have hfree := (s.slotEnded_txBuffer slot).trans htx
  have hclosed := s.leaveSlot_slotEnded slot
  have hbad (event : BusEvent) : ((s.slotEnded slot).badSlot event).leaveSlot slot = bad event := by
    change _ = { s.slotClosed slot with
      census := if s.ctl.station = StationState.active then
        { s.census with reasons := { s.census.reasons with badSlot := true } } else s.census
      mgmt := { s.mgmt with
        bus := s.mgmt.bus.record event
        counters := { s.mgmt.counters with badFrames := min (s.mgmt.counters.badFrames + 1) 4294967295 } } }
    rw [State.badSlot_eq, ← hclosed]
    rfl
  refine ⟨?_, fun samples hzero hsome => ⟨fun hnot => ?_, fun hframed hinvalid => ?_⟩⟩
  · rw [exec_censusSlotClose_clean hclose allOnes_ne_zero, State.deliverSlot_of_none hfree, classifySlot_silent]
    have hsilent : e.silent s.plan.missLimit = e' := e.silent_eq s.plan.missLimit
    change _ = Host.Outcome.next { s.slotClosed slot with census := s.census.setEntry slot e' }
    rw [← hclosed, ← hsilent]
    rfl
  · rw [exec_censusSlotClose_clean hclose hzero, State.deliverSlot_of_none hfree, classifySlot_malformed hsome hnot]
    exact congrArg _ ((hbad _).trans (by rw [s.slotEnded_seq]))
  · rw [exec_censusSlotClose_clean hclose hzero, State.deliverSlot_of_none hfree, classifySlot_framed hframed,
      State.receiveSlot_invalid hinvalid]
    exact congrArg _ ((hbad _).trans (by rw [s.slotEnded_seq]))

/-! ### SDAT low -/

section
variable {s : State} {slot : StationNo} {lineFirst : Bool}

theorem classifySlot_zero : classifySlot 0 = .malformed := by
  refine classifySlot_malformed (Ne.symm allOnes_ne_zero) fun h => ?_
  have hlead := h.1 0 (.inl (by decide))
  rw [BitVec.getMsbD_eq_getLsbD] at hlead
  simp at hlead

/-- A slot dominant throughout: the fault begins or holds, and its event comes before the slot's or after it (R40, R168). -/
def State.slotStuck (s : State) (slot : StationNo) : State :=
  { s.advanceTo (slotEnd slot) with
    sbi := { (s.advanceTo (slotEnd slot)).sbi with faults := { s.sbi.faults with sdatLow := true } }
    mgmt := { s.mgmt with flags := if s.sbi.faults.any then s.mgmt.flags else s.mgmt.flags ||| eventBit .line } }

theorem exec_censusSlotClose_stuck (h : s.canClose slot) : exec (.censusSlotClose slot 0 lineFirst) s = .next
    (((((s.slotStuck slot).recordBusIf (!s.sbi.faults.sdatLow && lineFirst) (.sdatLow slot s.sbi.seq)).deliverSlot slot 0).recordBusIf
      (!s.sbi.faults.sdatLow && !lineFirst) (.sdatLow slot s.sbi.seq)).leaveSlot slot) := by
  have hall : allDominant 0 = true := beq_self_eq_true _
  have hfault : (s.advanceTo (slotEnd slot)).slotFault 0 = s.slotStuck slot := by
    rw [State.slotFault, hall, State.modFaults_of_fault (by simp [LineFaults.any]), s.advanceTo_faults]
    rfl
  rw [exec_censusSlotClose h, State.closeSlot, Sbi.sdatLowBegins, hall, hfault, s.advanceTo_faults, s.advanceTo_seq,
    Bool.true_and]
  rfl

end

/-- Settles O27: the fault begun at the close of a slot, with its events in either order, and ended at a recessive sample. -/
theorem sdatLowBeginsAndEnds : Obligations.SdatLowBeginsAndEnds := by
  refine ⟨fun slot lineFirst s hclose => ?_, fun time s ho => ?_⟩
  · intro u low length faulty flags
    rw [exec_censusSlotClose_stuck hclose]
    have hbegins (c : Bool) : ((s.slotStuck slot).recordBusIf c low).sbi = (s.slotStuck slot).sbi := by cases c <;> rfl
    refine ⟨fun htx => ?_, fun n hslot htx hd hc => ?_⟩
    · have hdeliver (c : Bool) : ((s.slotStuck slot).recordBusIf c low).deliverSlot slot 0 =
          ((s.slotStuck slot).recordBusIf c low).badSlot length := by
        rw [State.deliverSlot_of_none (by rw [hbegins]; exact (s.advanceTo_txBuffer _).trans htx), classifySlot_zero,
          State.receiveSlot, hbegins]
        exact congrArg _ (congrArg _ (s.advanceTo_seq _))
      rw [hdeliver, State.badSlot_eq]
      cases hlow : s.sbi.faults.sdatLow <;> cases lineFirst <;> rfl
    · subst hslot
      have hreadback (c : Bool) : ((s.slotStuck s.own).recordBusIf c low).sbi.readback = s.sbi.readback := by
        rw [hbegins]
        exact s.advanceTo_readback _
      have hdeliver (c : Bool) : ((s.slotStuck s.own).recordBusIf c low).deliverSlot s.own 0 =
          (s.slotStuck s.own).recordBusIf c low := by
        have hown : ((s.slotStuck s.own).recordBusIf c low).own = s.own := by cases c <;> rfl
        have hlead : leadRecessive 0 = false := by simp [leadRecessive]
        have hclose := State.deliverSlot_own (s := (s.slotStuck s.own).recordBusIf c low) (samples := 0) (n := n)
          (by rw [hbegins]; exact (s.advanceTo_txBuffer _).trans htx)
        rw [hown, hlead, State.closeOwnSlot_unsent (by rwa [hreadback]) (by rwa [hreadback]) (State.clashes_false _),
          clashStreakAfter_false _ (by rwa [hreadback]) (by rwa [hreadback])] at hclose
        exact hclose
      rw [hdeliver]
      cases hlow : s.sbi.faults.sdatLow <;> cases lineFirst <;> rfl
  · intro u hplace
    have hsome : u.sbi.place.isSome = true := by
      obtain h | ⟨k, h⟩ := hplace <;> rw [Sbi.place, h] <;> rfl
    refine congrArg Host.Outcome.next ((if_pos ho).trans ?_)
    change u.clearSdatLow = _
    rw [State.clearSdatLow, if_pos hsome]
    refine (State.modFaults_of_ends (LineFaults.any_mono id id id fun h => by cases h)).trans ?_
    rw [s.advanceTo_faults]

end Sys2Proof.Machine

/-! PROOF. The directive window: contention, withdrawal, and what its close delivers (R29 to R31, R34, R40, R52, R53, R110,
R116, R172, R173). -/

namespace Sys2Proof.Machine

open Sys2Proof

section
variable {s : State} {samples : BitVec 400} {d : DirectiveFrame}

/-! ### The open of the window -/

theorem Sbi.contending_eq_false {b : Sbi} (h : ∀ d, b.txBuffer ≠ some (.directive d)) : b.contending = false := by
  unfold Sbi.contending
  split
  · exact absurd ‹_› (h _)
  · rfl
  · rfl

/-- The directive window as it opens, before a contender puts its frame on the line. -/
def State.windowOpened (s : State) : State :=
  { s.advanceTo 6600 with
    sbi := { (s.advanceTo 6600).sbi with phase := .directiveWindow, txBuffer := none, readback := .idle } }

theorem exec_directiveWindowOpen (ho : observes s.ctl.station = true) (hphase : s.sbi.phase.rank ≤ 17)
    (hclosed : s.sbi.windowClosed = false) (htx : ∀ d, s.sbi.txBuffer ≠ some (.directive d)) :
    exec .directiveWindowOpen s = .next s.windowOpened.contend := by
  have hguard : (observes s.ctl.station && decide (s.sbi.phase.rank ≤ 17) && !s.sbi.windowClosed && !s.sbi.contending) = true := by
    rw [guard_true ho hphase, hclosed, Sbi.contending_eq_false htx]
    rfl
  exact congrArg Host.Outcome.next (if_pos hguard)

theorem State.contend_head {d : Directive} {rest : List Directive} (hst : s.ctl.station = .active)
    (hqueue : s.ctl.queue = d :: rest) : s.contend = { s with
      sbi := { s.sbi with txBuffer := some (.directive d.frame), readback := .driving } } := by
  simp only [State.contend, hqueue, hst, if_true]
  rfl

theorem State.contend_none (h : s.ctl.station ≠ .active ∨ s.ctl.queue = []) : s.contend = s := by
  unfold State.contend
  split
  next hqueue => exact if_neg (h.resolve_right (by rw [hqueue]; simp))
  · rfl

/-! ### Withdrawal -/

theorem exec_arbitrationWithdraw {bitTime : Nat} (hphase : s.sbi.phase = .directiveWindow)
    (htx : s.sbi.txBuffer = some (.directive d)) (hd : s.sbi.readback = .driving) (hlo : 21 ≤ bitTime) (hhi : bitTime ≤ 26)
    (hbit : s.sbi.sdatDrive bitTime = .recessive) : exec (.arbitrationWithdraw bitTime) s = .next s.withdraw := by
  have hreads : s.sbi.readsBack bitTime = true := by
    simp only [Sbi.readsBack, hd, htx, Bool.and_eq_true, decide_eq_true_eq, beq_self_eq_true, true_and]
    omega
  have hguard : (s.sbi.phase == .directiveWindow && s.sbi.readsBack bitTime && isKeyBit bitTime
      && s.sbi.sdatDrive bitTime == .recessive) = true := by
    rw [hphase, hreads, isKeyBit_iff.mpr ⟨hlo, hhi⟩, hbit]
    rfl
  exact congrArg Host.Outcome.next (if_pos hguard)

end

/-- The bits of a Directive Frame, and recessive after them. -/
theorem DirectiveFrame.bits_getD (d : DirectiveFrame) (i : Nat) :
    (bitsOf d.wire).getD i true = false ↔ i ≤ 53 ∧ d.wire.getMsbD i = false := by
  by_cases hi : i ≤ 53
  · rw [bitsOf_getD _ (by omega)]
    exact (and_iff_right hi).symm
  · rw [List.getD_eq_default _ _ (by rw [length_bitsOf]; omega)]
    exact iff_of_false (by decide) fun h => hi h.1

/-- Settles O28: the head of the queue contends, its bits stand on the line, and a key bit lost withdraws it. -/
theorem contendersSendTheHeadAndWithdraw : Obligations.ContendersSendTheHeadAndWithdraw := by
  refine ⟨fun s ho hphase hclosed htx => ?_, fun d b htx hd => ?_, fun bitTime d s hphase htx hd hlo hhi hbit => ?_⟩
  · intro u
    rw [exec_directiveWindowOpen ho hphase hclosed htx]
    refine ⟨fun d rest hst hqueue => ?_, fun hnone => ?_⟩
    · rw [State.contend_head (s := s.windowOpened) hst hqueue]
      rfl
    · rw [State.contend_none (s := s.windowOpened) hnone]
      rfl
  · intro fields wire bitTime _
    rw [Sbi.sdatDrive_driving htx hd]
    refine if_congr Iff.rfl rfl (if_congr ?_ rfl rfl)
    rw [show (TxFrame.directive d).bits = bitsOf d.wire from rfl, d.bits_getD]
    exact and_congr_right fun hlo => and_congr_left fun _ => by omega
  · intro t
    have hrecessive : s.sbi.sdatDrive bitTime = .recessive := by
      rw [Sbi.sdatDrive_key htx hd hlo hhi, hbit, if_neg (by decide)]
    refine ⟨exec_arbitrationWithdraw hphase htx hd hlo hhi hrecessive, ?_,
      fun later => Sbi.sdatDrive_released (.inr fun h => by cases h)⟩
    rw [exec_readbackMismatch_window hd (by omega) (by omega) htx hphase,
      if_pos (by rw [isKeyBit_iff.mpr ⟨hlo, hhi⟩, hrecessive]; rfl)]
    rfl

/-! ### The close of the window -/

section
variable {s : State} {samples : BitVec 400} {d : DirectiveFrame} {b : Sbi}

/-- The window at its end, as its outcome is taken. -/
def State.windowEnded (s : State) (samples : BitVec 400) : State :=
  { s.advanceTo 7000 with
    sbi := { (s.advanceTo 7000).sbi with
      faults := { s.sbi.faults with sdatLow := s.sbi.faults.sdatLow && samples == 0 } } }

/-- The window left behind (R30, R31). -/
def State.leaveWindow (s : State) : State :=
  { s with sbi := { s.sbi with txBuffer := none, readback := .idle, phase := .vetoWindow, windowClosed := true } }

theorem exec_directiveWindowClose (ho : observes s.ctl.station = true) (hphase : s.sbi.phase.rank ≤ 18)
    (hclosed : s.sbi.windowClosed = false) : exec (.directiveWindowClose samples) s = .next
      (((s.windowEnded samples).windowResult s.sbi.windowOutcome).receiveWindow (s.sbi.windowReception samples)).leaveWindow := by
  have hguard : (observes s.ctl.station && decide (s.sbi.phase.rank ≤ 18) && !s.sbi.windowClosed) = true := by
    rw [guard_true ho hphase, hclosed]
    rfl
  have houtcome : (s.advanceTo 7000).sbi.windowOutcome = s.sbi.windowOutcome := by rw [State.advanceTo_sbi]; rfl
  have hreception : (s.advanceTo 7000).sbi.windowReception samples = s.sbi.windowReception samples := by
    rw [State.advanceTo_sbi]; rfl
  refine congrArg Host.Outcome.next ((if_pos hguard).trans ?_)
  change (s.advanceTo 7000).closeWindow samples = _
  rw [State.closeWindow, houtcome, hreception,
    State.modFaults_of_ends (LineFaults.any_mono id id id fun h => (Bool.and_eq_true_iff.mp h).1), s.advanceTo_faults]
  rfl

theorem Sbi.windowOutcome_sent (htx : b.txBuffer = some (.directive d)) (h : b.readback = .driving ∨ b.readback = .complete) :
    b.windowOutcome = .sent ∧ b.windowReception samples = .framed d.wire := by
  have hsent : b.windowOutcome = .sent := by obtain h | h := h <;> simp only [Sbi.windowOutcome, htx, h]
  exact ⟨hsent, by simp only [Sbi.windowReception, hsent, htx]⟩

theorem Sbi.windowOutcome_abandoned (htx : b.txBuffer = some (.directive d))
    (h : b.readback = .mismatched ∨ b.readback = .released) :
    b.windowOutcome = .abandoned ∧ b.windowReception samples = .malformed := by
  have habandoned : b.windowOutcome = .abandoned := by obtain h | h := h <;> simp only [Sbi.windowOutcome, htx, h]
  exact ⟨habandoned, by simp only [Sbi.windowReception, habandoned]⟩

/-- A station that did not contend, or has withdrawn, receives what the samples carry (R31). -/
theorem Sbi.windowOutcome_receives (h : (∀ f, b.txBuffer ≠ some (.directive f)) ∨ b.readback = .withdrawn) :
    (b.windowOutcome = .notContended ∨ b.windowOutcome = .lost) ∧ b.windowReception samples = classifyWindow samples := by
  have houtcome : b.windowOutcome = .notContended ∨ b.windowOutcome = .lost := by
    unfold Sbi.windowOutcome
    split
    next f hf =>
      rw [h.resolve_left fun hnone => hnone f hf]
      exact .inr rfl
    · exact .inl rfl
    · exact .inl rfl
  refine ⟨houtcome, ?_⟩
  obtain houtcome | houtcome := houtcome <;> simp only [Sbi.windowReception, houtcome]

theorem State.windowResult_unsent {o : WindowOutcome} (h : o ≠ .sent) : s.windowResult o = s := by
  cases o <;> simp_all [State.windowResult]

theorem State.receiveWindow_valid {x : BitVec 54} (h : validDirective x = some d) :
    s.receiveWindow (.framed x) = { s with census := { s.census with received := some d } } := by
  simp only [State.receiveWindow, h]
  rfl

theorem State.receiveWindow_invalid {x : BitVec 54} (h : validDirective x = none) :
    s.receiveWindow (.framed x) = s.badDirective (.check .directiveWindow s.sbi.seq) := by
  simp only [State.receiveWindow, h]

theorem State.badDirective_eq (event : BusEvent) : s.badDirective event = { s with
    census := if s.ctl.station = .active then
      { s.census with reasons := { s.census.reasons with badDirective := true } } else s.census
    mgmt := { s.mgmt with
      bus := s.mgmt.bus.record event
      counters := { s.mgmt.counters with badFrames := countUp 1 s.mgmt.counters.badFrames } } } := by
  rw [State.badDirective, State.addReason_eq]
  rfl

theorem State.windowEnded_seq (s : State) (samples : BitVec 400) : (s.windowEnded samples).sbi.seq = s.sbi.seq :=
  s.advanceTo_seq _

/-- A window that brings the station no frame of its own: what the samples, or the abandoned frame, come to. -/
theorem exec_directiveWindowClose_unsent (ho : observes s.ctl.station = true) (hphase : s.sbi.phase.rank ≤ 18)
    (hclosed : s.sbi.windowClosed = false) (hunsent : s.sbi.windowOutcome ≠ .sent) {r : Reception 54}
    (hr : s.sbi.windowReception samples = r) :
    exec (.directiveWindowClose samples) s = .next ((s.windowEnded samples).receiveWindow r).leaveWindow := by
  rw [exec_directiveWindowClose ho hphase hclosed, State.windowResult_unsent hunsent, hr]

end

/-- Settles O29: the head sent waits, and is the received directive. -/
theorem aSentDirectiveAwaitsItsEpoch : Obligations.ASentDirectiveAwaitsItsEpoch := by
  intro f samples s ho hphase hwindow htx hd u closed
  obtain ⟨houtcome, hreception⟩ := Sbi.windowOutcome_sent htx hd (samples := samples)
  rw [exec_directiveWindowClose ho hphase hwindow, houtcome, hreception, State.receiveWindow_valid (validDirective_wire f)]
  refine ⟨fun d rest hqueue => ?_, fun hqueue => ?_⟩
  · have hhead : (s.windowEnded samples).ctl.sentHead =
        { s.ctl with awaiting := true, queue := { d with sendCount := min (d.sendCount + 1) 255 } :: rest } := by
      change s.ctl.sentHead = _
      simp only [Control.sentHead, hqueue]
      rfl
    rw [State.windowResult, State.modCtl, hhead]
    rfl
  · have hhead : (s.windowEnded samples).ctl.sentHead = s.ctl := by
      change s.ctl.sentHead = _
      simp only [Control.sentHead, hqueue]
    rw [State.windowResult, State.modCtl, hhead]
    rfl

/-- The samples of a Directive Frame are found framed, and the frame is its bits. -/
theorem classifyWindow_sent (d : DirectiveFrame) : classifyWindow (samplesOf (bitsOf d.wire)) = .framed d.wire := by
  have hlength := length_bitsOf d.wire
  have hframed := framedAs_samplesOf (bits := bitsOf d.wire) (by omega)
  rw [hlength] at hframed
  rw [classifyWindow_framed hframed, show (325 : Nat) = 379 - 54 from rfl, extract_samplesOf hlength (by decide), ofBits_bitsOf]

/-- Settles O30: the window received, silent, bad, or abandoned, and where no frame is valid. -/
theorem aDirectiveIsReceivedAsItWasSent : Obligations.ADirectiveIsReceivedAsItWasSent := by
  refine ⟨fun samples s ho hphase hwindow => ?_, validDirective_eq_none_iff⟩
  intro u closed bad run receives framed
  have hbad (event : BusEvent) : ((s.windowEnded samples).badDirective event).leaveWindow = bad event := by
    rw [State.badDirective_eq]
    rfl
  have hreceived (h : receives) {r : Reception 54} (hr : classifyWindow samples = r) :
      run = .next ((s.windowEnded samples).receiveWindow r).leaveWindow := by
    obtain ⟨houtcome, hreception⟩ := Sbi.windowOutcome_receives h (samples := samples)
    refine exec_directiveWindowClose_unsent ho hphase hwindow ?_ (hreception.trans hr)
    obtain houtcome | houtcome := houtcome <;> rw [houtcome] <;> decide
  refine ⟨fun d h hsamples => ?_, fun h hsilent => ?_, fun h hsome hnot => ?_, fun h hframed hinvalid => ?_,
    fun f htx habandoned => ?_⟩
  · rw [hreceived h (by rw [hsamples, classifyWindow_sent d]), State.receiveWindow_valid (validDirective_wire d)]
    rfl
  · rw [hreceived h (by rw [hsilent, classifyWindow_silent])]
    rfl
  · rw [hreceived h (classifyWindow_malformed hsome hnot)]
    exact congrArg _ ((hbad _).trans (by rw [s.windowEnded_seq]))
  · rw [hreceived h (classifyWindow_framed hframed), State.receiveWindow_invalid hinvalid]
    exact congrArg _ ((hbad _).trans (by rw [s.windowEnded_seq]))
  · obtain ⟨houtcome, hreception⟩ := Sbi.windowOutcome_abandoned htx habandoned (samples := samples)
    refine (exec_directiveWindowClose_unsent ho hphase hwindow (by rw [houtcome]; decide) hreception).trans ?_
    exact congrArg _ ((hbad _).trans (by rw [s.windowEnded_seq]))

end Sys2Proof.Machine
